-- ==== Sys2Proof/Word.lean ====
section
/-! DEFINITION. The widths of the block: a packet byte and a command word (30_encoding.md R300 to R305), a percentage
(10_state.md R104), and a register whose width the configuration sets (R104, R105, R109). -/

namespace Sys2Proof

/-- A byte of a packet, a field code or a command argument: 8 bits, unsigned (R10). -/
abbrev Byte := BitVec 8

/-- A 16-bit word: a command word (R305) or the sequence register `SEQ` (R102). -/
abbrev Word := BitVec 16

/-- A damper percentage: 7 bits (R104, R111). -/
abbrev Percent := BitVec 7

/-- A register whose width is a parameter of the configuration: it carries the width and holds exactly that many bits
(`RAW`, `DAY_REF`, `NIGHT_REF`: R104; `HB_CNT`: R105; `DRAIN_CNT`: R109; notes/assumptions/9.md). -/
structure Reg where
  width : Nat
  bits : BitVec width
  deriving DecidableEq, Repr

end Sys2Proof
end

