-- ==== Sys2Proof/Config.lean ====
section
/-! DEFINITION. The configuration record `Cfg` of 00_scope.md R8, as plain data, and the free values of the model.
Rows the source fixes ("doc") and rows the spec fixes ("spec") have their default here; OPEN rows have none.
The three parameters of R8 that are functions on a finite domain are held as tables that can express every such
function (notes/assumptions/1.md; the claim is proved in Laws/Operands.lean).  The delays of R8 are names only
(`DelayName` in Machine/Event.lean): no rule reads a duration (R12). -/

namespace Sys2Proof

/-- The Packet2 field offsets `P2_OFF` with the spec's defaults (R302). -/
structure Packet2Offsets where
  mode : Nat := 2
  sp : Nat := 4
  fan : Nat := 5
  temp : Nat := 6
  reserved : Nat := 8
  alerts : Nat := 9
  compressor : Nat := 11
  deriving DecidableEq, Repr

/-- The configuration record (R8), read-only for the life of a run (R110). -/
structure Cfg where
  /-- `P1_HEADER`, OPEN. -/
  p1Header : Byte × Byte
  /-- `P2_HEADER`, OPEN. -/
  p2Header : Byte × Byte
  /-- `P1_TRAILER`, OPEN; its length is `T1`. -/
  p1Trailer : List Byte
  /-- `P3_TRAILER`, OPEN; its length is `T3`. -/
  p3Trailer : List Byte
  /-- `FILLER1`. -/
  filler1 : Byte := 0x00
  /-- `MODE_OFF`, OPEN. -/
  modeOff : Byte
  /-- `MODE_FAN_ON`, OPEN. -/
  modeFanOn : Byte
  /-- `MODE_HEAT_ON`, OPEN. -/
  modeHeatOn : Byte
  /-- `MODE_COOL_ON`, OPEN. -/
  modeCoolOn : Byte
  /-- `FAN_HI`, OPEN. -/
  fanHi : Byte
  /-- `FAN_MED`, OPEN. -/
  fanMed : Byte
  /-- `FAN_LO`, OPEN. -/
  fanLo : Byte
  /-- `SP_CODE`, OPEN, as the list of its values; a temperature not listed has the code of TC's shape `d -> d`. -/
  spCodeTable : List (Int × Byte)
  /-- `SP_VENT_DEG`. -/
  spVentDeg : Int := 21
  /-- `SP_HEAT_DEG`. -/
  spHeatDeg : Int := 30
  /-- `SP_COOL_DEG`. -/
  spCoolDeg : Int := 18
  /-- `RESERVED_SENTINEL`, OPEN. -/
  reservedSentinel : Byte
  /-- `isCompressorOn`, OPEN, as its truth table: bit `c` is its value at the code `c`. -/
  compressorOnCodes : BitVec 256
  /-- `isWarmup`, OPEN, as its truth table. -/
  warmupCodes : BitVec 256
  /-- `isFilter`, OPEN, as its truth table. -/
  filterCodes : BitVec 256
  /-- `P2_LEN`. -/
  p2Len : Nat := 16
  /-- `P2_CSUM_SPAN`. -/
  p2CsumSpan : Nat := 15
  /-- `P2_OFF` (R302). -/
  p2Off : Packet2Offsets := {}
  /-- `SEQ_BYTE_MAX`. -/
  seqByteMax : Nat := 0x32
  /-- `SEQ_NIB_MIN`. -/
  seqNibMin : Nat := 0x8
  /-- `SEQ_NIB_MAX`. -/
  seqNibMax : Nat := 0xB
  /-- `HB_EMIT`. -/
  hbEmit : Nat := 120
  /-- `HB_LOST`. -/
  hbLost : Nat := 200
  /-- `OFF_DRAIN_CYCLES`, OPEN. -/
  offDrainCycles : Nat
  /-- `CMDQ_DEPTH`, OPEN. -/
  cmdqDepth : Nat
  /-- `combine`, OPEN, as the list of its values; a pair not listed has the value of R500's default shape. -/
  combineTable : List ((Nat × Nat) × Nat)
  /-- `RAW_W`, OPEN. -/
  rawW : Nat
  /-- `X_W`, OPEN. -/
  xW : Nat
  /-- `Y_W`, OPEN. -/
  yW : Nat
  /-- The quantisation boundary 5: at or below it a percentage is 0 (R5, R503; the field's name is the model's,
  notes/assumptions/22.md). -/
  quantLow : Nat := 5
  /-- The quantisation boundary 95: from it on a percentage is 100 (R5, R503; notes/assumptions/22.md). -/
  quantHigh : Nat := 95
  /-- The quantisation step 10 (R5, R503; notes/assumptions/22.md). -/
  quantStep : Nat := 10
  /-- `ZONE_DAY_LEVEL`, OPEN. -/
  zoneDayLevel : Bool
  /-- `MALF_CLEAR_ON_VALID` (92_eei_decisions.md D10). -/
  malfClearOnValid : Bool := true
  /-- `SP_INIT`, OPEN. -/
  spInit : Byte
  /-- `FAN_INIT`, OPEN. -/
  fanInit : Byte
  /-- `REQ_INIT` (92_eei_decisions.md D41). -/
  reqInit : Nat := 100
  deriving DecidableEq, Repr

/-- FREE VALUE. The pair the sensor oracle gives at its `n`-th draw that no scripted pair answers: "the values are a
draw" (R208).  No body: nothing can be proved of its values (notes/assumptions/7.md). -/
opaque Config.sensorOracle : Nat → Nat × Nat

end Sys2Proof
end

