-- ==== Sys2Proof/Syntax.lean ====
section
/-! DEFINITION. The instructions: the fourteen supervisor commands of opcode_table.json (R3, R306). -/

namespace Sys2Proof

/-- One constructor per row of opcode_table.json.  Only `DAMPER_PERCENT` has an operand, an integer; the argument byte
of every other command is ignored (R307). -/
inductive Instr where
  | off
  | ventilate
  | thermoHeat
  | thermoCool
  | thermoAuto
  | heatMode
  | coolMode
  | fanMode
  | fanHi
  | fanMed
  | fanLo
  | damperPercent (n : Nat)
  | updateStatus
  | heartbeatAck
  deriving DecidableEq, Repr

end Sys2Proof
end

