-- ==== Sys2Proof/WellFormed.lean ====
section
/-! DEFINITION. What a well-formed instruction is (its operand fits the command word, R307) and what a configuration
must meet (R9, R200, R8's table); a configuration that breaks a check is refused (R9). -/

namespace Sys2Proof

/-- The operand of `DAMPER_PERCENT` is `cw[7:0]`, an integer 0..255 (R307); no other command has an operand. -/
def Instr.wf : Instr → Bool
  | .damperPercent n => decide (n < 256)
  | .off | .ventilate | .thermoHeat | .thermoCool | .thermoAuto | .heatMode | .coolMode | .fanMode
  | .fanHi | .fanMed | .fanLo | .updateStatus | .heartbeatAck => true

/-- R9: the four mode codes are pairwise distinct. -/
def Cfg.modeCodesDistinct (c : Cfg) : Bool :=
  decide ([c.modeOff, c.modeFanOn, c.modeHeatOn, c.modeCoolOn].Nodup)

/-- R9: the three fan codes are pairwise distinct. -/
def Cfg.fanCodesDistinct (c : Cfg) : Bool :=
  decide ([c.fanHi, c.fanMed, c.fanLo].Nodup)

/-- R9: `OFF_DRAIN_CYCLES >= 1` and `CMDQ_DEPTH >= 1`. -/
def Cfg.countsPositive (c : Cfg) : Bool :=
  decide (1 ≤ c.offDrainCycles) && decide (1 ≤ c.cmdqDepth)

/-- R9: `SEQ_NIB_MIN <= SEQ_NIB_MAX <= 0xF` and `SEQ_BYTE_MAX <= 0xFF`. -/
def Cfg.seqRangesLegal (c : Cfg) : Bool :=
  decide (c.seqNibMin ≤ c.seqNibMax) && decide (c.seqNibMax ≤ 0xF) && decide (c.seqByteMax ≤ 0xFF)

/-- R9: `HB_EMIT <= HB_LOST`. -/
def Cfg.heartbeatOrdered (c : Cfg) : Bool :=
  decide (c.hbEmit ≤ c.hbLost)

/-- R9: `P2_CSUM_SPAN = P2_LEN - 1`. -/
def Cfg.checksumLast (c : Cfg) : Bool :=
  decide (c.p2CsumSpan + 1 = c.p2Len)

/-- R200: "no offset outside a packet's length is ever read", so every Packet2 offset lies inside the packet
(notes/assumptions/10.md, DEDUCED). -/
def Cfg.offsetsInside (c : Cfg) : Bool :=
  [c.p2Off.mode, c.p2Off.sp, c.p2Off.fan, c.p2Off.temp, c.p2Off.reserved, c.p2Off.alerts,
    c.p2Off.compressor].all (fun o => decide (o < c.p2Len))

/-- R8's table: `REQ_INIT` lies in 0..100 (notes/assumptions/10.md, DEDUCED). -/
def Cfg.reqInitLegal (c : Cfg) : Bool :=
  decide (c.reqInit ≤ 100)

/-- R104: every quantised percentage is a legal value of `REPORTED`, a multiple of the step in 0..100; 0 and 100 are such
multiples (notes/assumptions/22.md, DESIGN CHOICE). -/
def Cfg.quantLegal (c : Cfg) : Bool :=
  decide (1 ≤ c.quantStep) && decide (100 % c.quantStep = 0) && decide (c.quantHigh ≤ 100)

/-- The constraints a configuration must meet. -/
def Cfg.wf (c : Cfg) : Bool :=
  c.countsPositive && (c.heartbeatOrdered && (c.checksumLast && (c.reqInitLegal && (c.seqRangesLegal &&
    (c.modeCodesDistinct && (c.fanCodesDistinct && (c.quantLegal && c.offsetsInside)))))))

end Sys2Proof
end

