-- ==== Sys2Proof/Decode.lean ====
section
/-! DEFINITION. Decoding and encoding of command words (30_encoding.md R305 to R308, R310, R311). -/

namespace Sys2Proof

/-- `cw[15:8]`, the command code (R305). -/
def cwCode (cw : Word) : Byte := cw.extractLsb' 8 8

/-- `cw[7:0]`, the argument (R305). -/
def cwArg (cw : Word) : Byte := cw.extractLsb' 0 8

/-- Why a word is no command: its code selects no row of R306. -/
inductive DecodeReject where
  | unknownService (code : Byte)
  deriving DecidableEq, Repr

/-- The row a code selects (R306); `DAMPER_PERCENT` takes the zero-extended argument (R307), every other command
ignores it.  Codes `0x0E` to `0xFF` are unknown services (R308). -/
def decode (cw : Word) : Except DecodeReject Instr :=
  match (cwCode cw).toNat with
  | 0x00 => .ok .off
  | 0x01 => .ok .ventilate
  | 0x02 => .ok .thermoHeat
  | 0x03 => .ok .thermoCool
  | 0x04 => .ok .thermoAuto
  | 0x05 => .ok .heatMode
  | 0x06 => .ok .coolMode
  | 0x07 => .ok .fanMode
  | 0x08 => .ok .fanHi
  | 0x09 => .ok .fanMed
  | 0x0A => .ok .fanLo
  | 0x0B => .ok (.damperPercent (cwArg cw).toNat)
  | 0x0C => .ok .updateStatus
  | 0x0D => .ok .heartbeatAck
  | _ => .error (.unknownService (cwCode cw))

/-- The command code of an instruction (R306). -/
def Instr.code : Instr → Byte
  | .off => 0x00
  | .ventilate => 0x01
  | .thermoHeat => 0x02
  | .thermoCool => 0x03
  | .thermoAuto => 0x04
  | .heatMode => 0x05
  | .coolMode => 0x06
  | .fanMode => 0x07
  | .fanHi => 0x08
  | .fanMed => 0x09
  | .fanLo => 0x0A
  | .damperPercent _ => 0x0B
  | .updateStatus => 0x0C
  | .heartbeatAck => 0x0D

/-- The argument byte an assembler writes: the operand, or 0 for a command without one (R307, R311). -/
def Instr.arg : Instr → Byte
  | .damperPercent n => BitVec.ofNat 8 n
  | .off | .ventilate | .thermoHeat | .thermoCool | .thermoAuto | .heatMode | .coolMode | .fanMode
  | .fanHi | .fanMed | .fanLo | .updateStatus | .heartbeatAck => 0x00

/-- The word `code << 8 | arg` of an instruction (R311). -/
def encode (i : Instr) : Word := i.code ++ i.arg

/-- The mnemonic of an instruction (R306). -/
def Instr.mnemonic : Instr → String
  | .off => "OFF"
  | .ventilate => "VENTILATE"
  | .thermoHeat => "THERMO_HEAT"
  | .thermoCool => "THERMO_COOL"
  | .thermoAuto => "THERMO_AUTO"
  | .heatMode => "HEAT_MODE"
  | .coolMode => "COOL_MODE"
  | .fanMode => "FAN_MODE"
  | .fanHi => "FAN_HI"
  | .fanMed => "FAN_MED"
  | .fanLo => "FAN_LO"
  | .damperPercent _ => "DAMPER_PERCENT"
  | .updateStatus => "UPDATE_STATUS"
  | .heartbeatAck => "HEARTBEAT_ACK"

/-- The commands an assembler line without an operand can name. -/
def plainCommands : List Instr :=
  [.off, .ventilate, .thermoHeat, .thermoCool, .thermoAuto, .heatMode, .coolMode, .fanMode, .fanHi, .fanMed, .fanLo,
    .updateStatus, .heartbeatAck]

/-- One line of the assembler syntax of R311, already split into its mnemonic and its decimal operand:
`MNEMONIC`, or `DAMPER_PERCENT n`. -/
def assembleLine (mnemonic : String) (operand : Option Nat) : Option Word :=
  match operand with
  | some n =>
    if mnemonic = "DAMPER_PERCENT" then
      if (Instr.damperPercent n).wf then some (encode (.damperPercent n)) else none
    else none
  | none => (plainCommands.find? (fun i => decide (i.mnemonic = mnemonic))).map encode

/-- The host's reading of a row of opcode_table.json: the word's bits as the table numbers them, given to `decode`.
A command word is 16 bits (R310), so a longer number is no word. -/
def decodeTableWord (nbits w : Nat) : Option Instr :=
  if w % 2 ^ nbits < 2 ^ 16 then
    match decode (BitVec.ofNat 16 (w % 2 ^ nbits)) with
    | .ok i => some i
    | .error _ => none
  else none

end Sys2Proof
end

