-- ==== Sys2Proof/Machine/Event.lean ====
section
/-! DEFINITION. What ACC's ports show: the status record (R111), the conditions (R901) and the events of the output
trace (R206). -/

namespace Sys2Proof.Machine

/-- The digital output lines (R107, R206). -/
inductive Line where
  | remoteEn
  | damperEn
  | damperStop
  | damperZone
  deriving DecidableEq, Repr

/-- The named delays (R8, R12): names only, no rule reads a duration. -/
inductive DelayName where
  | remoteSettle
  | txSettle
  | gap
  | finalGap
  | idle
  | calTravel
  deriving DecidableEq, Repr

/-- The two halves of the sensor's self-test sequence (R206). -/
inductive SelfTestPhase where
  | enter
  | exit
  deriving DecidableEq, Repr

/-- The transports ACC closes after a shutdown (R206, R810). -/
inductive Transport where
  | sensor
  | serial
  deriving DecidableEq, Repr

/-- The status record (R111), fields in the source's order. -/
structure StatusRec where
  remoteOperation : Bool
  heat : Bool
  cool : Bool
  fan : Bool
  fanHi : Bool
  fanMed : Bool
  fanLo : Bool
  heating : Bool
  compressor : Bool
  malfunction : Bool
  damperPercent : Percent
  filter : Bool
  deriving DecidableEq, Repr

/-- The Packet2 field a `FieldMismatchWarning` names (R901). -/
inductive MismatchField where
  | reserved
  | mode
  | sp
  | fan
  deriving DecidableEq, Repr

/-- The conditions of R901.  None of them is a trap (R900). -/
inductive Condition where
  | checksumMismatch (received : Byte)
  | checksumShort (received : Nat)
  | frameNotFound
  | fieldMismatch (field : MismatchField) (value : Byte)
  | supervisorLinkLost (hbCnt : Nat)
  | unknownService (code : Byte)
  | badArgument (n : Nat)
  | linearizerFault (dayRef nightRef : Nat)
  | calibrationInverted (dayRef nightRef : Nat)
  | commandIgnored (cw : Word)
  deriving DecidableEq, Repr

/-- The `info` part of a `DIAG` event (R901). -/
inductive DiagInfo where
  | nothing
  | mismatch (received : Byte)
  | short (received : Nat)
  | field (sub : Nat) (value : Byte)
  | number (n : Nat)
  | references (dayRef nightRef : Nat)
  | command (cw : Word)
  deriving DecidableEq, Repr

/-- The events of the output trace (R206). -/
inductive Event where
  | line (l : Line) (v : Bool)
  | wait (name : DelayName)
  | serFlush
  | serWrite (b : List Byte)
  | sensorSample (x y : Nat)
  | sensorSelftest (phase : SelfTestPhase)
  | status (rec : StatusRec)
  | heartbeat
  | restartNotice
  | diag (code : Nat) (info : DiagInfo)
  | fatalRestart
  | close (t : Transport)
  | exit
  deriving DecidableEq, Repr

end Sys2Proof.Machine
end

