-- ==== Sys2Proof/Machine/TestConfig.lean ====
section
/-! DEFINITION. The test configuration TC of 00_scope.md R8.  Its values of OPEN rows "are invented for testing and must
not be assumed to be the physical unit's values": no statement rests on them (notes/assumptions/2.md). -/

namespace Sys2Proof

/-- Column TC of R8; the truth tables are those of `c != 0`, `(a & 1) != 0` and `(a & 2) != 0`, and the two empty
tables leave TC's `SP_CODE(d) = d` and R500's default `combine`. -/
def Cfg.tc : Cfg where
  p1Header := (0x00, 0x8F)
  p2Header := (0x28, 0x1F)
  p1Trailer := [0x00, 0x00]
  p3Trailer := [0x00, 0x00]
  modeOff := 0x00
  modeFanOn := 0x01
  modeHeatOn := 0x02
  modeCoolOn := 0x03
  fanHi := 0x03
  fanMed := 0x02
  fanLo := 0x01
  spCodeTable := []
  reservedSentinel := 0x80
  compressorOnCodes := 0xFFFFFFFFFFFFFFFFFFFFFFFFFFFFFFFFFFFFFFFFFFFFFFFFFFFFFFFFFFFFFFFE
  warmupCodes := 0xAAAAAAAAAAAAAAAAAAAAAAAAAAAAAAAAAAAAAAAAAAAAAAAAAAAAAAAAAAAAAAAA
  filterCodes := 0xCCCCCCCCCCCCCCCCCCCCCCCCCCCCCCCCCCCCCCCCCCCCCCCCCCCCCCCCCCCCCCCC
  offDrainCycles := 1
  cmdqDepth := 16
  combineTable := []
  rawW := 10
  xW := 3
  yW := 8
  zoneDayLevel := true
  spInit := 0x15
  fanInit := 0x01

end Sys2Proof
end

