-- ==== Sys2Proof/Machine/Widths.lean ====
section
/-! DEFINITION. Registers of a configured width (10_state.md R100, R104, R105, R109): reading, writing, and the widths. -/

namespace Sys2Proof

/-- The value of a register, an unsigned number (R10). -/
def Reg.toNat (r : Reg) : Nat := r.bits.toNat

/-- A register of width `w` holding `n`, cut to the width. -/
def Reg.ofNat (w n : Nat) : Reg := { width := w, bits := BitVec.ofNat w n }

/-- `REG <- n`: the width stays, the value is cut to it (R100: fixed-width registers). -/
def Reg.write (r : Reg) (n : Nat) : Reg := Reg.ofNat r.width n

/-- `bits(n)`: how many bits hold `n` (R105, R109). -/
def bitsFor (n : Nat) : Nat := n.log2 + 1

/-- The width of `HB_CNT`: `bits(HB_LOST + 1)` (R105), 8 under the defaults. -/
def Cfg.hbCntWidth (c : Cfg) : Nat := bitsFor (c.hbLost + 1)

/-- The width of `DRAIN_CNT`: `bits(OFF_DRAIN_CYCLES)` (R109). -/
def Cfg.drainCntWidth (c : Cfg) : Nat := bitsFor c.offDrainCycles

end Sys2Proof
end

