-- ==== Sys2Proof/Machine/State.lean ====
section
/-! DEFINITION. The state of ACC (10_state.md), the reasons a step can stop, and the state after reset (R112, R1000).
ACC has no addressable memory (R200): State holds none. -/

namespace Sys2Proof.Machine

/-- The sequencer phase `PHASE` (R108), the analogue of a program counter. -/
inductive Phase where
  | ph0
  | ph1
  | ph2
  | ph3
  | ph4
  | ph5
  deriving DecidableEq, Repr

/-- `TERM` (R109): a terminal sequence is pending. -/
inductive Term where
  | none
  | fatal
  | shutdown
  deriving DecidableEq, Repr

/-- One answer of the serial receive oracle `RxByte()` (R207). -/
inductive RxDraw where
  | byte (b : Byte)
  | timeout
  deriving DecidableEq, Repr

/-- The outbound field registers (R101), the source's OutboundPacket held once. -/
structure Outbound where
  /-- `MODE`. -/
  mode : Byte
  /-- `SP`. -/
  sp : Byte
  /-- `FAN`, the fan-speed code. -/
  fan : Byte
  deriving DecidableEq, Repr

/-- The ModeState flags (R103). -/
structure ModeState where
  /-- `remote_operation`. -/
  remoteOperation : Bool
  /-- `heat`. -/
  heat : Bool
  /-- `cool`. -/
  cool : Bool
  /-- the flag `fan`. -/
  fanOn : Bool
  /-- `fan_hi`. -/
  fanHi : Bool
  /-- `fan_med`. -/
  fanMed : Bool
  /-- `fan_lo`. -/
  fanLo : Bool
  /-- `heating`. -/
  heating : Bool
  /-- `compressor`. -/
  compressor : Bool
  /-- `malfunction`. -/
  malfunction : Bool
  /-- `filter`. -/
  filter : Bool
  deriving DecidableEq, Repr

/-- The damper registers (R104). -/
structure DamperState where
  /-- `REQ`, 7 bits. -/
  req : Percent
  /-- `REPORTED`, 7 bits. -/
  reported : Percent
  /-- `RAW`, `RAW_W` bits. -/
  raw : Reg
  /-- `DAY_REF`, `RAW_W` bits. -/
  dayRef : Reg
  /-- `NIGHT_REF`, `RAW_W` bits. -/
  nightRef : Reg
  /-- `ADJUSTING`. -/
  adjusting : Bool
  deriving DecidableEq, Repr

/-- The heartbeat registers (R105). -/
structure HeartbeatState where
  /-- `HB_CNT`, `bits(HB_LOST + 1)` bits. -/
  cnt : Reg
  /-- `MISSED`. -/
  missed : Bool
  deriving DecidableEq, Repr

/-- The output line registers (R107). -/
structure LineState where
  /-- `LINE_REMOTE_EN`. -/
  remoteEn : Bool
  /-- `LINE_DAMPER_EN`. -/
  damperEn : Bool
  /-- `LINE_DAMPER_STOP`. -/
  damperStop : Bool
  /-- `LINE_DAMPER_ZONE`. -/
  damperZone : Bool
  deriving DecidableEq, Repr

/-- The sequencer registers (R108, R109) and the position in the reset sequence (R1000). -/
structure SequencerState where
  /-- `PHASE`. -/
  phase : Phase
  /-- `REMOTE_PREV`. -/
  remotePrev : Bool
  /-- `DRAIN_CNT`, `bits(OFF_DRAIN_CYCLES)` bits. -/
  drainCnt : Reg
  /-- `TERM`. -/
  term : Term
  /-- `HALTED`. -/
  halted : Bool
  /-- `CMDQ` (R109, R201), oldest word first. -/
  cmdq : List Word
  /-- R1000: the registers hold their reset values and `Calibrate()` has not run yet. -/
  resetPending : Bool
  deriving DecidableEq, Repr

/-- The inputs: what the host and the two oracles present to ACC. -/
structure InputState where
  /-- the level of `SHUTDOWN_REQ` (R902): the bare level, no latch (DESIGN CHOICE, notes/assumptions/21.md). -/
  shutdownReq : Bool
  /-- what `RxByte()` can still return before the next `SER_FLUSH` (R207). -/
  rxWindow : List RxDraw
  /-- the same for the windows that later `SER_FLUSH` events open, in order. -/
  rxLater : List (List RxDraw)
  /-- the pairs the next `Sample()` calls return (R208). -/
  samples : List (Nat × Nat)
  /-- the model's own: how many sensor draws the free value `Config.sensorOracle` has answered. -/
  sampleCtr : Nat
  deriving DecidableEq, Repr

/-- The whole state, plain data, in the groups of 10_state.md. -/
structure State where
  /-- `Cfg` (R8, R110): fixed for a run; no step changes it. -/
  cfg : Cfg
  /-- `MODE`, `SP`, `FAN` (R101). -/
  out : Outbound
  /-- `SEQ` (R102). -/
  seq : Word
  /-- the ModeState flags (R103). -/
  flags : ModeState
  /-- the damper registers (R104). -/
  damper : DamperState
  /-- the heartbeat registers (R105). -/
  hb : HeartbeatState
  /-- `RX_TEMP` (R106). -/
  rxTemp : Byte
  /-- the output line registers (R107). -/
  lines : LineState
  /-- the sequencer registers (R108, R109, R1000). -/
  ctl : SequencerState
  /-- the inputs (R207, R208, R902). -/
  inp : InputState
  /-- output: the trace of the run so far, oldest event first (R206). -/
  trace : List Event
  deriving DecidableEq, Repr

/-- The reasons a step can stop with a fault: none.  "A condition is not a trap" (R900) and "Trap entry does not exist"
(R904), so the type is empty (notes/assumptions/15.md, safe: no step is given an outcome it lacks). -/
inductive Fault where
  deriving DecidableEq, Repr

/-- The reasons the model gives no meaning. -/
inductive Refusal where
  /-- An instruction without a meaning yet, raised only by an arm of `exec`; no arm of this model raises it.  Safe. -/
  | notModelled (mnemonic : String)
  /-- The configuration breaks a constraint of R9 ("refused by the model, not given a meaning") or one of the three the
  model adds (notes/assumptions/10.md, 22.md), raised by every step of such a state.  Safe. -/
  | badConfiguration
  deriving DecidableEq, Repr

/-- The registers as a reset leaves them, before the reset calibration runs (R101 to R109, R112, R1000), under the
configuration `c`.  `REPORTED`, `RAW`, `DAY_REF`, `NIGHT_REF` and `RX_TEMP` are unspecified there; the model holds 0
(DESIGN CHOICE, notes/assumptions/5.md).  The trace of a run is empty and the inputs are idle. -/
def State.resetWith (c : Cfg) : State where
  cfg := c
  out := { mode := c.modeOff, sp := c.spInit, fan := c.fanInit }
  seq := c.p1Header.1 ++ c.p1Header.2
  flags := { remoteOperation := false, heat := false, cool := false, fanOn := false, fanHi := false, fanMed := false,
             fanLo := false, heating := false, compressor := false, malfunction := false, filter := false }
  damper := { req := BitVec.ofNat 7 c.reqInit, reported := 0, raw := .ofNat c.rawW 0, dayRef := .ofNat c.rawW 0,
              nightRef := .ofNat c.rawW 0, adjusting := false }
  hb := { cnt := .ofNat c.hbCntWidth 0, missed := false }
  rxTemp := 0x00
  lines := { remoteEn := false, damperEn := false, damperStop := false, damperZone := false }
  ctl := { phase := .ph0, remotePrev := false, drainCnt := .ofNat c.drainCntWidth 0, term := .none, halted := false,
           cmdq := [], resetPending := true }
  inp := { shutdownReq := false, rxWindow := [], rxLater := [], samples := [], sampleCtr := 0 }
  trace := []

/-- The machine right after reset, under TC (DESIGN CHOICE, notes/assumptions/2.md). -/
def State.reset : State := State.resetWith Cfg.tc

end Sys2Proof.Machine
end

