-- ==== Sys2Proof/Machine/Ops.lean ====
section
/-! DEFINITION. The shared operations over State: emitting events, raising conditions, the status record, the output
lines, and the two oracles.  ACC's analogue of taking an exception is `raise`: it appends a `DIAG` event and goes on;
it saves nothing and transfers no control (R900, R904), so there is no return operation (R905). -/

namespace Sys2Proof.Machine

/-- Sequencing of outcomes: go on from a next state, stop at a fault or a refusal. -/
def andThen (o : Host.Outcome State Fault Refusal) (f : State → Host.Outcome State Fault Refusal) :
    Host.Outcome State Fault Refusal :=
  match o with
  | .next s => f s
  | .fault r => .fault r
  | .refused r => .refused r

/-- `emit E` (R11): append an event to the output trace. -/
def emit (e : Event) (s : State) : State := { s with trace := s.trace ++ [e] }

/-- The sub-code of a `FieldMismatchWarning` (R901). -/
def MismatchField.sub : MismatchField → Nat
  | .reserved => 0
  | .mode => 1
  | .sp => 2
  | .fan => 3

/-- The numeric code of a condition (R901). -/
def Condition.code : Condition → Nat
  | .checksumMismatch _ => 1
  | .checksumShort _ => 1
  | .frameNotFound => 2
  | .fieldMismatch _ _ => 3
  | .supervisorLinkLost _ => 4
  | .unknownService _ => 5
  | .badArgument _ => 6
  | .linearizerFault _ _ => 7
  | .calibrationInverted _ _ => 8
  | .commandIgnored _ => 9

/-- The info field of a condition (R901). -/
def Condition.info : Condition → DiagInfo
  | .checksumMismatch b => .mismatch b
  | .checksumShort n => .short n
  | .frameNotFound => .nothing
  | .fieldMismatch f v => .field f.sub v
  | .supervisorLinkLost n => .number n
  | .unknownService code => .number code.toNat
  | .badArgument n => .number n
  | .linearizerFault d n => .references d n
  | .calibrationInverted d n => .references d n
  | .commandIgnored cw => .command cw

/-- The `DIAG(code, info)` event of a condition (R206, R901). -/
def Condition.event (c : Condition) : Event := .diag c.code c.info

/-- `raise Cond(info)` (R11, R900): emit the `DIAG` event and continue. -/
def raise (c : Condition) (s : State) : State := emit c.event s

/-- The status record (R111): the flags as they stand, and `damper_percent = REPORTED`. -/
def statusRec (s : State) : StatusRec where
  remoteOperation := s.flags.remoteOperation
  heat := s.flags.heat
  cool := s.flags.cool
  fan := s.flags.fanOn
  fanHi := s.flags.fanHi
  fanMed := s.flags.fanMed
  fanLo := s.flags.fanLo
  heating := s.flags.heating
  compressor := s.flags.compressor
  malfunction := s.flags.malfunction
  damperPercent := s.damper.reported
  filter := s.flags.filter

/-- `Notify()` (R617). -/
def notify (s : State) : State := emit (.status (statusRec s)) s

/-- The line registers with line `l` at `v`. -/
def LineState.set (l : Line) (v : Bool) (r : LineState) : LineState :=
  match l with
  | .remoteEn => { r with remoteEn := v }
  | .damperEn => { r with damperEn := v }
  | .damperStop => { r with damperStop := v }
  | .damperZone => { r with damperZone := v }

/-- `LINE_l <- v`: the register, and its `LINE` event whether or not the value changes (R107). -/
def writeLine (l : Line) (v : Bool) (s : State) : State :=
  emit (.line l v) { s with lines := s.lines.set l v }

/-- The four line writes of a release, in the order of R807 and R810, and `ADJUSTING <- false`. -/
def releaseLines (s : State) : State :=
  { writeLine .damperZone false (writeLine .damperStop false (writeLine .damperEn false (writeLine .remoteEn false s))) with
    damper.adjusting := false }

/-- `MODE <- m; SP <- t; FAN <- f`, the three outbound field registers (R101). -/
def setOutbound (m t f : Byte) (s : State) : State := { s with out := { mode := m, sp := t, fan := f } }

/-- `DRAIN_CNT <- OFF_DRAIN_CYCLES` (R600, R702, R902). -/
def armDrain (s : State) : State := { s with ctl.drainCnt := s.ctl.drainCnt.write s.cfg.offDrainCycles }

/-- `SER_FLUSH` (R207): the bytes sent and not read are discarded, and the next window opens. -/
def serFlush (s : State) : State :=
  emit .serFlush { s with inp.rxWindow := s.inp.rxLater.headD [], inp.rxLater := s.inp.rxLater.tail }

/-- One `RxByte()` on a window of the receive oracle (R207): the byte or `TIMEOUT` (`none`), and what is left.  When no
byte is left none arrives within the read timeout. -/
def rxByte : List RxDraw → Option Byte × List RxDraw
  | [] => (none, [])
  | .timeout :: rest => (none, rest)
  | .byte b :: rest => (some b, rest)

/-- `Sample()` (R208): the next scripted pair, or a free value where none is scripted; each axis within its width. -/
def sample (s : State) : (Nat × Nat) × State :=
  match s.inp.samples with
  | p :: rest => ((p.1 % 2 ^ s.cfg.xW, p.2 % 2 ^ s.cfg.yW), { s with inp.samples := rest })
  | [] =>
    let p := Config.sensorOracle s.inp.sampleCtr
    ((p.1 % 2 ^ s.cfg.xW, p.2 % 2 ^ s.cfg.yW), { s with inp.sampleCtr := s.inp.sampleCtr + 1 })

end Sys2Proof.Machine
end

