-- ==== Sys2Proof/Machine/Codec.lean ====
section
/-! DEFINITION. The packet codec and the sequence-number rotator (40_packet_codec.md), and the hex text form of a packet
(20_memory.md R203).  Pure functions but for the receive oracle (R407). -/

namespace Sys2Proof.Machine

/-- `Checksum(b)` (R400): the sum of the bytes, mod 256. -/
def checksum (b : List Byte) : Byte := BitVec.ofNat 8 (b.map BitVec.toNat).sum

/-- A base-16 digit as text (R203). -/
def hexDigit (n : Nat) : Char :=
  ("0123456789abcdef".toList).getD n '0'

/-- `hex2(v)` (R203): the two hex characters of a byte, most significant digit first. -/
def hex2 (v : Byte) : List Char := [hexDigit (v.toNat / 16), hexDigit (v.toNat % 16)]

/-- The hex-encoded byte string (R203). -/
def hexString (b : List Byte) : List Char := b.flatMap hex2

/-- The value of a hex digit character (R203). -/
def hexValue (ch : Char) : Option Nat :=
  let i := ("0123456789abcdef".toList).idxOf ch
  if i < 16 then some i else none

/-- "split the hex-encoded byte string into 2-character chunks, parse each as base-16" (R401); no value for a text that
is not a whole number of bytes. -/
def parseChunks : List Char → Option (List Nat)
  | [] => some []
  | [_] => none
  | a :: b :: rest =>
    match hexValue a, hexValue b, parseChunks rest with
    | some h, some l, some ns => some ((16 * h + l) :: ns)
    | _, _, _ => none

/-- The source's text algorithm (R401): parse the chunks, "sum, mod 256, format as zero-padded 2-digit hex". -/
def textChecksum (text : List Char) : Option (List Char) :=
  (parseChunks text).map (fun ns => hex2 (BitVec.ofNat 8 (ns.sum % 256)))

/-- The bytes of Packet1 before its checksum (R300). -/
def packet1Body (c : Cfg) (mode sp fan : Byte) : List Byte :=
  [c.p1Header.1, c.p1Header.2, mode, c.filler1, sp, fan] ++ c.p1Trailer

/-- `Encode1()` (R402). -/
def encode1 (c : Cfg) (mode sp fan : Byte) : List Byte :=
  packet1Body c mode sp fan ++ [checksum (packet1Body c mode sp fan)]

/-- `SEQ[15:8]`, the byte counter (R102). -/
def seqHigh (w : Word) : Byte := w.extractLsb' 8 8

/-- `SEQ[7:0]`, the nibble counter and the constant `F` (R102, R303). -/
def seqLow (w : Word) : Byte := w.extractLsb' 0 8

/-- The bytes of Packet3 before its checksum (R301). -/
def packet3Body (c : Cfg) (seq : Word) (mode sp fan : Byte) : List Byte :=
  [seqHigh seq, seqLow seq, mode, c.filler1, sp, fan] ++ c.p3Trailer

/-- `Encode3()` (R403). -/
def encode3 (c : Cfg) (seq : Word) (mode sp fan : Byte) : List Byte :=
  packet3Body c seq mode sp fan ++ [checksum (packet3Body c seq mode sp fan)]

/-- The result of `ReceiveFrame()` (R404). -/
inductive Reception where
  | frameNotFound
  | short (b : List Byte)
  | frame (b : List Byte)
  deriving DecidableEq, Repr

/-- The body loop of R404: up to `n` bytes; whether all of them came, the bytes, and what the window still holds. -/
def readBody : Nat → List RxDraw → Bool × List Byte × List RxDraw
  | 0, w => (true, [], w)
  | n + 1, w =>
    match rxByte w with
    | (none, rest) => (false, [], rest)
    | (some d, rest) =>
      match readBody n rest with
      | (all, ds, rest') => (all, d :: ds, rest')

/-- The frame once its marker is complete (R404): `P2_LEN - 2` more bytes, or a short frame. -/
def readFrame (c : Cfg) (w : List RxDraw) : Reception × List RxDraw :=
  match readBody (c.p2Len - 2) w with
  | (true, ds, rest) => (.frame ([c.p2Header.1, c.p2Header.2] ++ ds), rest)
  | (false, ds, rest) => (.short ([c.p2Header.1, c.p2Header.2] ++ ds), rest)

/-- The marker loop of R404 with `fuel` bytes still to be examined and the previous byte, if any. -/
def scanFrame (c : Cfg) : Nat → Option Byte → List RxDraw → Reception × List RxDraw
  | 0, _, w => (.frameNotFound, w)
  | fuel + 1, prev, w =>
    match rxByte w with
    | (none, rest) => (.frameNotFound, rest)
    | (some b, rest) =>
      if prev = some c.p2Header.1 ∧ b = c.p2Header.2 then readFrame c rest
      else scanFrame c fuel (some b) rest

/-- `ReceiveFrame()` (R404): at most `P2_LEN` bytes are examined for the marker. -/
def receiveFrame (s : State) : Reception × State :=
  match scanFrame s.cfg s.cfg.p2Len none s.inp.rxWindow with
  | (f, rest) => (f, { s with inp.rxWindow := rest })

/-- The fields of a valid Packet2 (R405). -/
structure Packet2 where
  mode : Byte
  sp : Byte
  fan : Byte
  temp : Byte
  reserved : Byte
  alerts : Byte
  compressor : Byte
  deriving DecidableEq, Repr

/-- The byte at an offset of a received packet (R204); every offset read lies inside it (R200). -/
def byteAt (b : List Byte) (i : Nat) : Byte := b.getD i 0

/-- `Decode(b)` (R405); `none` is `CHECKSUM_ERROR`. -/
def decodePacket2 (c : Cfg) (b : List Byte) : Option Packet2 :=
  if checksum (b.take c.p2CsumSpan) = byteAt b c.p2CsumSpan then
    some { mode := byteAt b c.p2Off.mode, sp := byteAt b c.p2Off.sp, fan := byteAt b c.p2Off.fan,
           temp := byteAt b c.p2Off.temp, reserved := byteAt b c.p2Off.reserved,
           alerts := byteAt b c.p2Off.alerts, compressor := byteAt b c.p2Off.compressor }
  else none

/-- The fields "just transmitted": `MODE`, `SP` and `FAN` as rendered into this cycle's Packet1 (R406, R803). -/
structure Sent where
  mode : Byte
  sp : Byte
  fan : Byte
  deriving DecidableEq, Repr

/-- One check of R406: warn when a field is not the expected byte. -/
def warnUnless (f : MismatchField) (got expected : Byte) (s : State) : State :=
  if got = expected then s else raise (.fieldMismatch f got) s

/-- `Diagnose(v, sent)` (R406): reserved, mode, set-point, fan, in this order. -/
def diagnose (v : Packet2) (sent : Sent) (s : State) : State :=
  warnUnless .fan v.fan sent.fan
    (warnUnless .sp v.sp sent.sp
      (warnUnless .mode v.mode sent.mode
        (warnUnless .reserved v.reserved s.cfg.reservedSentinel s)))

/-- `SEQ[7:4]`, the nibble counter (R102). -/
def seqNib (w : Word) : BitVec 4 := w.extractLsb' 4 4

/-- A sequence number from its byte and nibble counters, rendered `<byte><nibble>f` (R303). -/
def seqOf (b n : Nat) : Word := BitVec.ofNat 8 b ++ (BitVec.ofNat 4 n ++ 0xF#4)

/-- `SeqNext(s)` (R408). -/
def seqNext (c : Cfg) (w : Word) : Word :=
  if (seqNib w).toNat < c.seqNibMax then seqOf (seqHigh w).toNat ((seqNib w).toNat + 1)
  else if (seqHigh w).toNat < c.seqByteMax then seqOf ((seqHigh w).toNat + 1) c.seqNibMin
  else seqOf 0 c.seqNibMin

end Sys2Proof.Machine
end

