-- ==== Sys2Proof/Machine/Operands.lean ====
section
/-! DEFINITION. The functions of the configuration (00_scope.md R8, R500) and the one operand range (R611). -/

namespace Sys2Proof

/-- `SP_CODE(d)` (R8). -/
def Cfg.spCode (c : Cfg) (d : Int) : Byte := (c.spCodeTable.lookup d).getD (BitVec.ofInt 8 d)

/-- `isCompressorOn(c)` (R8). -/
def Cfg.isCompressorOn (c : Cfg) (code : Byte) : Bool := c.compressorOnCodes.getLsbD code.toNat

/-- `isWarmup(a)` (R8). -/
def Cfg.isWarmup (c : Cfg) (alerts : Byte) : Bool := c.warmupCodes.getLsbD alerts.toNat

/-- `isFilter(a)` (R8). -/
def Cfg.isFilter (c : Cfg) (alerts : Byte) : Bool := c.filterCodes.getLsbD alerts.toNat

/-- The spec's default shape of `combine` (R500): the low bit of `y` is dropped and the retained bits of `x` stand above
the remaining bits of `y`.
R500 gives no value where an exponent of its shape is negative, `Y_W = 0` or `Y_W > RAW_W + 1`, and R9 excludes neither:
natural subtraction takes that exponent as 0 (DESIGN CHOICE, notes/assumptions/14.md). -/
def Cfg.combineDefault (c : Cfg) (x y : Nat) : Nat := (x % 2 ^ (c.rawW + 1 - c.yW)) * 2 ^ (c.yW - 1) + y / 2

/-- `combine(x, y)` (R500), a total function to `0 .. 2^RAW_W - 1`. -/
def Cfg.combine (c : Cfg) (x y : Nat) : Nat := ((c.combineTable.lookup (x, y)).getD (c.combineDefault x y)) % 2 ^ c.rawW

/-- `DAMPER_PERCENT` accepts 0..100 (R307, R611). -/
def legalPercent (n : Nat) : Bool := decide (n ≤ 100)

end Sys2Proof
end

