-- ==== Sys2Proof/Machine/Damper.lean ====
section
/-! DEFINITION. The damper sensor linearizer, the relay-drive controller and the calibration (41_damper.md). -/

namespace Sys2Proof.Machine

/-- `ReadRaw()` (R501): one sample, its event, the combined reading. -/
def readRaw (s : State) : Nat × State :=
  match sample s with
  | (p, s1) => (s.cfg.combine p.1 p.2, emit (.sensorSample p.1 p.2) s1)

/-- `Quantize(p)` (R503) on an exact percentage, with the literals 5, 95 and 10 as parameters (R5): the 5 that R503 adds
before it divides is half the step (notes/assumptions/22.md, DESIGN CHOICE). -/
def quantize (c : Cfg) (p : Rat) : Nat :=
  if (c.quantHigh : Rat) ≤ p then 100
  else if p ≤ (c.quantLow : Rat) then 0
  else c.quantStep * ((p + (c.quantStep : Rat) / 2) / (c.quantStep : Rat)).floor.toNat

/-- The exact percentage of R502: day is 100, night is 0. -/
def percentage (r day night : Nat) : Rat := 100 * ((night : Rat) - r) / ((night : Rat) - day)

/-- `Linearize(r, day, night)` (R504), on mathematical integers, with the parameters of `quantize`: `p >= high` is
`100 * N >= high * D`, and so on; under the defaults these are R504's own comparisons and division
(notes/assumptions/22.md). -/
def linearize (c : Cfg) (r day night : Nat) : Nat :=
  let n : Int := (night : Int) - r
  let d : Int := (night : Int) - day
  if 100 * n ≥ c.quantHigh * d then 100
  else if 100 * n ≤ c.quantLow * d then 0
  else c.quantStep * ((200 * n + c.quantStep * d) / (2 * c.quantStep * d)).toNat

/-- The zone decision (R505). -/
inductive Zone where
  | day
  | night
  | hold
  deriving DecidableEq, Repr

/-- `Drive(req, rep)` (R505). -/
def drive (req rep : Nat) : Zone :=
  if req > rep then .day
  else if req < rep then .night
  else if 0 < req ∧ req < 100 then .hold
  else if req = 100 then .day
  else .night

/-- `ApplyZone(z)` (R506): the zone line is written before the stop line is released. -/
def applyZone (z : Zone) (s : State) : State :=
  match z with
  | .hold => { writeLine .damperStop true s with damper.adjusting := false }
  | .day => { writeLine .damperStop false (writeLine .damperZone s.cfg.zoneDayLevel s) with damper.adjusting := true }
  | .night => { writeLine .damperStop false (writeLine .damperZone (!s.cfg.zoneDayLevel) s) with damper.adjusting := true }

/-- `DamperAdjust()` (R507, R508). -/
def damperAdjust (s : State) : State :=
  match readRaw s with
  | (r, s1) =>
    let day := s1.damper.dayRef.toNat
    let night := s1.damper.nightRef.toNat
    let s2 : State := { s1 with damper.raw := s1.damper.raw.write r }
    if night ≤ day then applyZone .hold (raise (.linearizerFault day night) s2)
    else
      let s3 : State := { s2 with damper.reported := BitVec.ofNat 7 (linearize s2.cfg r day night) }
      applyZone (drive s3.damper.req.toNat s3.damper.reported.toNat) s3

/-- The first half of `Calibrate()` (R509): self-test, take control, drive fully to Night, record the night reference. -/
def calibrateNight (s : State) : State :=
  let s1 := emit (.sensorSelftest .exit) (emit (.sensorSelftest .enter) s)
  let s2 := writeLine .damperEn true s1
  let s3 := writeLine .damperStop false (writeLine .damperZone (!s.cfg.zoneDayLevel) s2)
  match readRaw (emit (.wait .calTravel) s3) with
  | (night, s4) => { s4 with damper.nightRef := s4.damper.nightRef.write night }

/-- The second half of `Calibrate()` (R509): drive fully to Day, record the day reference, release control. -/
def calibrateDay (s : State) : State :=
  let s1 := writeLine .damperZone s.cfg.zoneDayLevel s
  match readRaw (emit (.wait .calTravel) s1) with
  | (day, s2) =>
    let s3 : State := { s2 with damper.dayRef := s2.damper.dayRef.write day, damper.raw := s2.damper.raw.write day }
    let s4 := writeLine .damperEn false (writeLine .damperStop true s3)
    let s5 : State := { s4 with damper.adjusting := false, damper.reported := 100 }
    let dayRef := s5.damper.dayRef.toNat
    let nightRef := s5.damper.nightRef.toNat
    if nightRef ≤ dayRef then raise (.calibrationInverted dayRef nightRef) s5 else s5

/-- `Calibrate()` (R509). -/
def calibrate (s : State) : State := calibrateDay (calibrateNight s)

end Sys2Proof.Machine
end

