-- ==== Sys2Proof/Machine/Flags.lean ====
section
/-! DEFINITION. The flag helpers of 42_mode_commands.md: SetModeFlags and SetFanFlags (R618), SetObs (R617). -/

namespace Sys2Proof.Machine

/-- The argument of `SetFanFlags` (R618). -/
inductive FanSpeed where
  | hi
  | med
  | lo
  | none
  deriving DecidableEq, Repr

/-- `SetModeFlags(h, c, f)` (R618). -/
def setModeFlags (h c f : Bool) (s : State) : State := { s with flags.heat := h, flags.cool := c, flags.fanOn := f }

/-- `SetFanFlags(v)` (R618). -/
def setFanFlags (v : FanSpeed) (s : State) : State :=
  { s with flags.fanHi := decide (v = .hi), flags.fanMed := decide (v = .med), flags.fanLo := decide (v = .lo) }

/-- The flags `SetObs` is applied to (R614, R804). -/
inductive ObsFlag where
  | compressor
  | heating
  | filter
  | malfunction
  deriving DecidableEq, Repr

/-- The value of an observed flag. -/
def ModeState.getObs (f : ObsFlag) (m : ModeState) : Bool :=
  match f with
  | .compressor => m.compressor
  | .heating => m.heating
  | .filter => m.filter
  | .malfunction => m.malfunction

/-- The flags with an observed flag at `v`. -/
def ModeState.putObs (f : ObsFlag) (v : Bool) (m : ModeState) : ModeState :=
  match f with
  | .compressor => { m with compressor := v }
  | .heating => { m with heating := v }
  | .filter => { m with filter := v }
  | .malfunction => { m with malfunction := v }

/-- `SetObs(f, v)` (R617): write and notify on an edge only. -/
def setObs (f : ObsFlag) (v : Bool) (s : State) : State :=
  if s.flags.getObs f = v then s else notify { s with flags := s.flags.putObs f v }

end Sys2Proof.Machine
end

