-- ==== Sys2Proof/Machine/FanCommands.lean ====
section
/-! DEFINITION. The fan-speed commands (42_mode_commands.md R608 to R610). -/

namespace Sys2Proof.Machine

/-- The common effect: the fan-speed code, the fan-speed flags, one notification; nothing else. -/
def applyFanSpeed (f : Byte) (v : FanSpeed) (s : State) : State := notify (setFanFlags v { s with out.fan := f })

/-- `FAN_HI` (R608). -/
def execFanHi (s : State) : Host.Outcome State Fault Refusal := .next (applyFanSpeed s.cfg.fanHi .hi s)

/-- `FAN_MED` (R609). -/
def execFanMed (s : State) : Host.Outcome State Fault Refusal := .next (applyFanSpeed s.cfg.fanMed .med s)

/-- `FAN_LO` (R610). -/
def execFanLo (s : State) : Host.Outcome State Fault Refusal := .next (applyFanSpeed s.cfg.fanLo .lo s)

end Sys2Proof.Machine
end

