-- ==== Sys2Proof/Machine/ModeCommands.lean ====
section
/-! DEFINITION. The mode commands (42_mode_commands.md R600 to R607) and their helper EnableRemote (R615). -/

namespace Sys2Proof.Machine

/-- `EnableRemote()` (R615): cancel a pending Off teardown; assert the two enable lines if not yet under remote control. -/
def enableRemote (s : State) : State :=
  let s1 := if s.ctl.term = .none ∧ 0 < s.ctl.drainCnt.toNat then { s with ctl.drainCnt := s.ctl.drainCnt.write 0 } else s
  if s1.flags.remoteOperation then s1
  else
    { emit (.wait .remoteSettle) (writeLine .damperEn true (writeLine .remoteEn true s1)) with flags.remoteOperation := true }

/-- The transition `OFF` (R600), which the command, the watchdog (R702) and the shutdown (R902) run. -/
def offTransition (s : State) : State :=
  let s1 := setFanFlags .none (setModeFlags false false false { s with out.mode := s.cfg.modeOff })
  let s2 := if s1.flags.remoteOperation = true ∧ s1.ctl.drainCnt.toNat = 0 then armDrain s1 else s1
  notify s2

/-- The common end of a mode command: the outbound fields, the mode flags, the fan-speed flags, one notification. -/
def applyMode (m t f : Byte) (h c fn : Bool) (v : FanSpeed) (s : State) : State :=
  notify (setFanFlags v (setModeFlags h c fn (setOutbound m t f s)))

/-- `OFF` (R600). -/
def execOff (s : State) : Host.Outcome State Fault Refusal := .next (offTransition s)

/-- `VENTILATE` (R601). -/
def execVentilate (s : State) : Host.Outcome State Fault Refusal :=
  .next (applyMode s.cfg.modeFanOn (s.cfg.spCode s.cfg.spVentDeg) s.cfg.fanHi false false true .hi (enableRemote s))

/-- `THERMO_HEAT` (R602). -/
def execThermoHeat (s : State) : Host.Outcome State Fault Refusal :=
  .next (applyMode s.cfg.modeFanOn (s.cfg.spCode s.cfg.spHeatDeg) s.cfg.fanLo false false true .lo (enableRemote s))

/-- `THERMO_COOL` (R603). -/
def execThermoCool (s : State) : Host.Outcome State Fault Refusal :=
  .next (applyMode s.cfg.modeFanOn (s.cfg.spCode s.cfg.spCoolDeg) s.cfg.fanLo false false true .lo (enableRemote s))

/-- `THERMO_AUTO` (R604): "reserved/no-op". -/
def execThermoAuto (s : State) : Host.Outcome State Fault Refusal := .next s

/-- `HEAT_MODE` (R605). -/
def execHeatMode (s : State) : Host.Outcome State Fault Refusal :=
  .next (applyMode s.cfg.modeHeatOn (s.cfg.spCode s.cfg.spHeatDeg) s.cfg.fanHi true false false .hi s)

/-- `COOL_MODE` (R606). -/
def execCoolMode (s : State) : Host.Outcome State Fault Refusal :=
  .next (applyMode s.cfg.modeCoolOn (s.cfg.spCode s.cfg.spCoolDeg) s.cfg.fanHi false true false .hi s)

/-- `FAN_MODE` (R607): the set-point is unchanged. -/
def execFanMode (s : State) : Host.Outcome State Fault Refusal :=
  .next (applyMode s.cfg.modeFanOn s.out.sp s.cfg.fanLo false false true .lo s)

end Sys2Proof.Machine
end

