-- ==== Sys2Proof/Machine/Watchdog.lean ====
section
/-! DEFINITION. The heartbeat watchdog (43_watchdog.md). -/

namespace Sys2Proof.Machine

/-- `WatchdogAck()` (R703). -/
def watchdogAck (s : State) : State := { s with hb.cnt := s.hb.cnt.write 0, hb.missed := false }

/-- `LinkLost()` (R702). -/
def linkLost (s : State) : State :=
  let s1 := { raise (.supervisorLinkLost s.hb.cnt.toNat) s with hb.missed := true, flags.malfunction := true }
  armDrain { offTransition s1 with ctl.term := .fatal }

/-- `WatchdogTick()` (R700, R701): increment, then compare; nothing once a terminal sequence is pending. -/
def watchdogTick (s : State) : State :=
  if s.ctl.term = .none then
    let s1 := { s with hb.cnt := s.hb.cnt.write (s.hb.cnt.toNat + 1) }
    let s2 := if s1.hb.cnt.toNat = s1.cfg.hbEmit then emit .heartbeat s1 else s1
    if s2.cfg.hbLost < s2.hb.cnt.toNat then linkLost s2 else s2
  else s

end Sys2Proof.Machine
end

