-- ==== Sys2Proof/Machine/SystemCommands.lean ====
section
/-! DEFINITION. The damper, status and liveness commands (42_mode_commands.md R611 to R613). -/

namespace Sys2Proof.Machine

/-- `DAMPER_PERCENT n` (R611): stored as given up to 100, refused with `BadArgument` above. -/
def execDamperPercent (n : Nat) (s : State) : Host.Outcome State Fault Refusal :=
  .next (if legalPercent n then { s with damper.req := BitVec.ofNat 7 n } else raise (.badArgument n) s)

/-- `UPDATE_STATUS` (R612). -/
def execUpdateStatus (s : State) : Host.Outcome State Fault Refusal := .next (notify s)

/-- `HEARTBEAT_ACK` (R613). -/
def execHeartbeatAck (s : State) : Host.Outcome State Fault Refusal := .next (watchdogAck s)

end Sys2Proof.Machine
end

