-- ==== Sys2Proof/Machine/Dispatch.lean ====
section
/-! DEFINITION. The meaning of each command, one arm per row of opcode_table.json. -/

namespace Sys2Proof.Machine

def exec (i : Instr) (s : State) : Host.Outcome State Fault Refusal :=
  match i with
  | .off => Sys2Proof.Machine.execOff s
  | .ventilate => Sys2Proof.Machine.execVentilate s
  | .thermoHeat => Sys2Proof.Machine.execThermoHeat s
  | .thermoCool => Sys2Proof.Machine.execThermoCool s
  | .thermoAuto => Sys2Proof.Machine.execThermoAuto s
  | .heatMode => Sys2Proof.Machine.execHeatMode s
  | .coolMode => Sys2Proof.Machine.execCoolMode s
  | .fanMode => Sys2Proof.Machine.execFanMode s
  | .fanHi => Sys2Proof.Machine.execFanHi s
  | .fanMed => Sys2Proof.Machine.execFanMed s
  | .fanLo => Sys2Proof.Machine.execFanLo s
  | .damperPercent n => Sys2Proof.Machine.execDamperPercent n s
  | .updateStatus => Sys2Proof.Machine.execUpdateStatus s
  | .heartbeatAck => Sys2Proof.Machine.execHeartbeatAck s

end Sys2Proof.Machine
end

