-- ==== Sys2Proof/Machine/ControlLoop.lean ====
section
/-! DEFINITION. The control-loop sequencer (44_control_loop.md), the dispatch of command words (R616), the observations
(R614), the shutdown sequence (R902) and the reset sequence (R1000). -/

namespace Sys2Proof.Machine

/-- `Dispatch(cw)` (R616): discard while a terminal sequence is pending, else run the command or report an unknown
service. -/
def dispatch (cw : Word) (s : State) : Host.Outcome State Fault Refusal :=
  if s.ctl.term = .none then
    match decode cw with
    | .ok i => exec i s
    | .error (.unknownService code) => .next (raise (.unknownService code) s)
  else .next (raise (.commandIgnored cw) s)

/-- The loop of R802 over the words present when PH1 begins: dequeue the head, then dispatch it. -/
def drainWords : List Word → State → Host.Outcome State Fault Refusal
  | [], s => .next s
  | cw :: rest, s => andThen (dispatch cw { s with ctl.cmdq := s.ctl.cmdq.tail }) (drainWords rest)

/-- `DrainCommands()` (R802). -/
def drainCommands (s : State) : Host.Outcome State Fault Refusal := drainWords s.ctl.cmdq s

/-- `Observe(v)` (R614). -/
def observe (v : Packet2) (s : State) : State :=
  setObs .filter (s.cfg.isFilter v.alerts)
    (setObs .heating (s.cfg.isWarmup v.alerts)
      (setObs .compressor (s.cfg.isCompressorOn v.compressor) { s with rxTemp := v.temp }))

/-- The success arm of `RxOutcome` (R804): warn, observe, and clear `malfunction` unless the watchdog has fired. -/
def acceptPacket2 (v : Packet2) (sent : Sent) (s : State) : State :=
  let s1 := observe v (diagnose v sent s)
  if s1.cfg.malfClearOnValid = true ∧ s1.hb.missed = false then setObs .malfunction false s1 else s1

/-- `RxOutcome(f, sent)` (R804): whether Packet3 is sent, and the state. -/
def rxOutcome (f : Reception) (sent : Sent) (s : State) : Bool × State :=
  match f with
  | .frameNotFound => (false, setObs .malfunction true (raise .frameNotFound s))
  | .short b => (false, setObs .malfunction true (raise (.checksumShort b.length) s))
  | .frame b =>
    match decodePacket2 s.cfg b with
    | none => (false, setObs .malfunction true (raise (.checksumMismatch (byteAt b s.cfg.p2CsumSpan)) s))
    | some v => (true, acceptPacket2 v sent s)

/-- `SendPacket3(p3)` (R805). -/
def sendPacket3 (p3 : List Byte) (s : State) : State :=
  { emit (.serWrite p3) s with seq := seqNext s.cfg s.seq }

/-- The part of `Exchange()` before reception (R803): flush, transmit Packet1, settle, flush, gap. -/
def transmitPacket1 (s : State) : State :=
  let s1 := emit (.serWrite (encode1 s.cfg s.out.mode s.out.sp s.out.fan)) (serFlush s)
  emit (.wait .gap) (serFlush (emit (.wait .txSettle) s1))

/-- `Exchange()` (R803): both packets are rendered before reception. -/
def exchange (s : State) : State :=
  let p3 := encode3 s.cfg s.seq s.out.mode s.out.sp s.out.fan
  match receiveFrame (transmitPacket1 s) with
  | (f, s1) =>
    match rxOutcome f { mode := s.out.mode, sp := s.out.sp, fan := s.out.fan } s1 with
    | (ok, s2) => emit (.wait .finalGap) (if ok then sendPacket3 p3 s2 else s2)

/-- `Deactivate()` (R807). -/
def deactivate (s : State) : State :=
  notify { releaseLines s with hb.cnt := s.hb.cnt.write 0, flags.malfunction := s.hb.missed }

/-- `FinishFatal()` (R809). -/
def finishFatal (s : State) : State :=
  { emit .fatalRestart (emit .restartNotice (deactivate s)) with ctl.halted := true }

/-- `FinishShutdown()` (R810). -/
def finishShutdown (s : State) : State :=
  { emit .exit (emit (.close .serial) (emit (.close .sensor) (releaseLines s))) with ctl.halted := true }

/-- The end of a drain (R808): tear the link down, then finish the pending terminal sequence, if any. -/
def endDrain (s : State) : State :=
  match s.ctl.term with
  | .none => { s with flags.remoteOperation := false }
  | .fatal => finishFatal { s with flags.remoteOperation := false }
  | .shutdown => finishShutdown { s with flags.remoteOperation := false }

/-- `DrainStep()` (R808). -/
def drainStep (s : State) : State :=
  if 0 < s.ctl.drainCnt.toNat then
    let s1 := { s with ctl.drainCnt := s.ctl.drainCnt.write (s.ctl.drainCnt.toNat - 1) }
    if s1.ctl.drainCnt.toNat = 0 then endDrain s1 else s1
  else s

/-- `Shutdown()` (R902). -/
def shutdown (s : State) : State :=
  armDrain { offTransition s with ctl.term := .shutdown }

/-- Phase PH0 of a cycle that is not halted (R800, R801). -/
def phase0 (s : State) : State :=
  { (if s.inp.shutdownReq = true ∧ s.ctl.term = .none then shutdown s else s) with ctl.phase := .ph1 }

/-- Phase PH1 (R802). -/
def phase1 (s : State) : Host.Outcome State Fault Refusal :=
  andThen (drainCommands s) (fun t => .next { t with ctl.phase := .ph2 })

/-- Phase PH2 (R700). -/
def phase2 (s : State) : State := { watchdogTick s with ctl.phase := .ph3 }

/-- The branch of phase PH3 (R800, R806): exchange and damper step, deactivation, or idle. -/
def branch3 (s : State) : State :=
  if s.flags.remoteOperation then damperAdjust (exchange s)
  else if s.ctl.remotePrev then deactivate s
  else emit (.wait .idle) s

/-- Phase PH3. -/
def phase3 (s : State) : State := { branch3 s with ctl.phase := .ph4 }

/-- Phase PH4: remember what PH3 saw (R800). -/
def phase4 (s : State) : State := { s with ctl.remotePrev := s.flags.remoteOperation, ctl.phase := .ph5 }

/-- Phase PH5 (R808); the next cycle begins at PH0 (R108). -/
def phase5 (s : State) : State := { drainStep s with ctl.phase := .ph0 }

/-- The part of a cycle after phase PH1. -/
def afterCommands (s : State) : State := phase5 (phase4 (phase3 (phase2 s)))

/-- `Cycle()` (R800), run from the phase the state stands in to the end of the cycle.  Between cycles that is PH0; a
state in the middle of a cycle finishes it (notes/assumptions/3.md). -/
def cycle (s : State) : Host.Outcome State Fault Refusal :=
  match s.ctl.phase with
  | .ph0 => if s.ctl.halted then .next s else andThen (phase1 (phase0 s)) (fun t => .next (afterCommands t))
  | .ph1 => andThen (phase1 s) (fun t => .next (afterCommands t))
  | .ph2 => .next (afterCommands s)
  | .ph3 => .next (phase5 (phase4 (phase3 s)))
  | .ph4 => .next (phase5 (phase4 s))
  | .ph5 => .next (phase5 s)

/-- The rest of `Reset()` after the register writes (R1000): the calibration; the first cycle begins at PH0. -/
def finishReset (s : State) : State := { calibrate s with ctl.resetPending := false }

/-- One step: refuse an illegal configuration (R9), finish a reset, or run one cycle (R12, R214). -/
def advance (s : State) : Host.Outcome State Fault Refusal :=
  if s.cfg.wf then
    if s.ctl.resetPending then .next (finishReset s) else cycle s
  else .refused .badConfiguration

/-- A state whose next cycle applies exactly the command word `cw`: at PH0, past the reset sequence, not halted, no
terminal sequence and no shutdown pending, `cw` alone in `CMDQ` (notes/assumptions/4.md). -/
def placeCommand (cw : Word) (s : State) : State :=
  { s with ctl.cmdq := [cw], ctl.phase := .ph0, ctl.resetPending := false, ctl.halted := false, ctl.term := .none, inp.shutdownReq := false }

end Sys2Proof.Machine
end

