-- ==== Sys2Proof/Machine/Step.lean ====
section
/-! DEFINITION. One step of ACC: the rest of a reset, or one cycle (R12, R214, R800, R1000). -/

namespace Sys2Proof.Machine

/-- One step. -/
def step (s : State) : Host.Outcome State Fault Refusal := advance s

/-- `s` with the command word of `nbits` bits placed so that the next step runs exactly it. -/
def State.withFetchWord (s : State) (nbits w : Nat) : State := placeCommand (BitVec.ofNat 16 (w % 2 ^ nbits)) s

end Sys2Proof.Machine
end

