-- ==== Sys2Proof/Machine/HostPort.lean ====
section
/-! DEFINITION. What the host and the outside world can do between steps (20_memory.md R201, R207, R208, R214;
60_exceptions.md R902; 70_reset_and_hazards.md R1000), with the input lines of R311. -/

namespace Sys2Proof.Machine

/-- The command port's ready signal (R201). -/
def cmdReady (s : State) : Bool := decide (s.ctl.cmdq.length < s.cfg.cmdqDepth)

/-- One attempt to enqueue a command word (R201): accepted while ready; otherwise the producer keeps the word and
nothing changes. -/
def enqueue (cw : Word) (s : State) : State :=
  if cmdReady s then { s with ctl.cmdq := s.ctl.cmdq ++ [cw] } else s

/-- The host drives the level of `SHUTDOWN_REQ` (R902).  DESIGN CHOICE (notes/assumptions/21.md): the model keeps the bare
level and no latch, so a request raised and dropped between two samplings is not seen. -/
def setShutdown (level : Bool) (s : State) : State := { s with inp.shutdownReq := level }

/-- The unit's bytes for the reception of the next exchange: they come after its second `SER_FLUSH` (R803, R1009). -/
def sendRx (draws : List RxDraw) (s : State) : State := { s with inp.rxLater := s.inp.rxLater ++ [[], draws] }

/-- One more pair for the sensor oracle (R208). -/
def sense (x y : Nat) (s : State) : State := { s with inp.samples := s.inp.samples ++ [(x, y)] }

/-- The host asserts reset (R1000): every register takes its reset value, a new trace begins, nothing of the run
survives; the host's inputs (the shutdown level and the oracles) stay as they are. -/
def hostReset (s : State) : State :=
  { State.resetWith s.cfg with inp := s.inp }

/-- The moves of the world outside ACC (R214, R311); running a cycle is `step`. -/
inductive HostMove where
  | reset
  | word (cw : Word)
  | command (i : Instr)
  | shutdown (level : Bool)
  | rx (draws : List RxDraw)
  | sense (x y : Nat)
  deriving DecidableEq, Repr

/-- The effect of a host move (R214, R311). -/
def hostMove (m : HostMove) (s : State) : State :=
  match m with
  | .reset => hostReset s
  | .word cw => enqueue cw s
  | .command i => enqueue (encode i) s
  | .shutdown level => setShutdown level s
  | .rx draws => sendRx draws s
  | .sense x y => Machine.sense x y s

end Sys2Proof.Machine
end

