-- ==== Sys2Proof/Safety.lean ====
section
/-! DEFINITION. The terms the claims use: groups of state for frames, the invariant of 10_state.md R113 with the further
facts the rules give between cycles, idle states, and runs. -/

namespace Sys2Proof.Machine

/-- What NO command changes (42_mode_commands.md: the "State written" lines of R600 to R613): the configuration, the
inputs, `SEQ`, `RX_TEMP`, the flags that report the unit's own state, the damper registers but `REQ`, the two damper
position lines, and the sequencer registers but `DRAIN_CNT`. -/
structure CommandFrame (s t : State) : Prop where
  cfg : t.cfg = s.cfg
  inp : t.inp = s.inp
  seq : t.seq = s.seq
  rxTemp : t.rxTemp = s.rxTemp
  heating : t.flags.heating = s.flags.heating
  compressor : t.flags.compressor = s.flags.compressor
  malfunction : t.flags.malfunction = s.flags.malfunction
  filter : t.flags.filter = s.flags.filter
  reported : t.damper.reported = s.damper.reported
  raw : t.damper.raw = s.damper.raw
  dayRef : t.damper.dayRef = s.damper.dayRef
  nightRef : t.damper.nightRef = s.damper.nightRef
  adjusting : t.damper.adjusting = s.damper.adjusting
  damperStop : t.lines.damperStop = s.lines.damperStop
  damperZone : t.lines.damperZone = s.lines.damperZone
  phase : t.ctl.phase = s.ctl.phase
  remotePrev : t.ctl.remotePrev = s.ctl.remotePrev
  term : t.ctl.term = s.ctl.term
  halted : t.ctl.halted = s.ctl.halted
  cmdq : t.ctl.cmdq = s.ctl.cmdq
  resetPending : t.ctl.resetPending = s.ctl.resetPending

/-- The trace grew by exactly the events `evs`. -/
def Emits (s t : State) (evs : List Event) : Prop := t.trace = s.trace ++ evs

/-- The sequence space `S` of R409. -/
def seqSpace (c : Cfg) (w : Word) : Prop :=
  (seqHigh w).toNat ≤ c.seqByteMax ∧ c.seqNibMin ≤ (seqNib w).toNat ∧ (seqNib w).toNat ≤ c.seqNibMax ∧
    w.extractLsb' 0 4 = 0xF#4

/-- The number of members of `S` (R409). -/
def seqPeriod (c : Cfg) : Nat := (c.seqByteMax + 1) * (c.seqNibMax - c.seqNibMin + 1)

/-- The draws of the receive oracle that give the bytes of `b` one after another. -/
def RxDraw.bytes (b : List Byte) : List RxDraw := b.map RxDraw.byte

/-- `[prev, c] == P2_HEADER` at place `k` of a byte list: its bytes `k` and `k + 1` are the frame marker (R404). -/
def markerAt (c : Cfg) (b : List Byte) (k : Nat) : Prop :=
  b[k]? = some c.p2Header.1 ∧ b[k + 1]? = some c.p2Header.2

/-- Every register whose width the configuration sets has that width (R104, R105, R109). -/
structure Sized (s : State) : Prop where
  raw : s.damper.raw.width = s.cfg.rawW
  dayRef : s.damper.dayRef.width = s.cfg.rawW
  nightRef : s.damper.nightRef.width = s.cfg.rawW
  hbCnt : s.hb.cnt.width = s.cfg.hbCntWidth
  drainCnt : s.ctl.drainCnt.width = s.cfg.drainCntWidth

/-- The same registers have the same widths in two states. -/
structure SameWidths (s t : State) : Prop where
  raw : t.damper.raw.width = s.damper.raw.width
  dayRef : t.damper.dayRef.width = s.damper.dayRef.width
  nightRef : t.damper.nightRef.width = s.damper.nightRef.width
  hbCnt : t.hb.cnt.width = s.hb.cnt.width
  drainCnt : t.ctl.drainCnt.width = s.ctl.drainCnt.width

/-- The invariant: what holds between steps in every state ACC reaches.  R113's invariants, the legal values of the
registers (R101 to R109), and facts the rules give about the terminal sequences and the enable lines. -/
structure State.Inv (s : State) : Prop where
  /-- R9: the configuration is legal. -/
  cfgWf : s.cfg.wf = true
  /-- R108: a cycle returns to `PH0`. -/
  phase : s.ctl.phase = .ph0
  /-- R113: at most one of `fan_hi`, `fan_med`, `fan_lo` is true. -/
  fanOneHot : s.flags.fanHi.toNat + s.flags.fanMed.toNat + s.flags.fanLo.toNat ≤ 1
  /-- R618 as the commands use it: at most one mode flag is true. -/
  modeOneHot : s.flags.heat.toNat + s.flags.cool.toNat + s.flags.fanOn.toNat ≤ 1
  /-- R113. -/
  req : s.damper.req.toNat ≤ 100
  /-- R113, with the quantisation step as the parameter it is (R5). -/
  reported : s.damper.reported.toNat % s.cfg.quantStep = 0 ∧ s.damper.reported.toNat ≤ 100
  /-- R100, R104, R105, R109: every register has the width its table gives. -/
  sized : Sized s
  /-- R105. -/
  hbCnt : s.hb.cnt.toNat ≤ s.cfg.hbLost + 1
  /-- R700, R702: the count passes `HB_LOST` only into a terminal sequence. -/
  hbRunning : s.ctl.term = .none → s.hb.cnt.toNat ≤ s.cfg.hbLost
  /-- R113. -/
  drainCnt : s.ctl.drainCnt.toNat ≤ s.cfg.offDrainCycles
  /-- R113. -/
  halted : s.ctl.halted = true → s.ctl.term ≠ .none
  /-- R702, R808, R902: a terminal sequence that has not halted has a drain left. -/
  draining : s.ctl.term ≠ .none → s.ctl.halted = false → 0 < s.ctl.drainCnt.toNat
  /-- R600, R615, R808: an ordinary drain runs only under remote operation. -/
  drainRemote : s.ctl.term = .none → 0 < s.ctl.drainCnt.toNat → s.flags.remoteOperation = true
  /-- R113. -/
  cmdq : s.ctl.cmdq.length ≤ s.cfg.cmdqDepth
  /-- R113, R102: the low nibble of `SEQ` is `F` once `SEQ` has advanced. -/
  seq : s.seq.extractLsb' 0 4 = 0xF#4 ∨ s.seq = s.cfg.p1Header.1 ++ s.cfg.p1Header.2
  /-- R702, R703, R616: `MISSED` is set by the link-lost sequence and stays through it. -/
  missed : s.hb.missed = true ↔ s.ctl.term = .fatal
  /-- R702, R804, R807: no valid packet and no deactivation clears `malfunction` after a lost link. -/
  malfunction : s.hb.missed = true → s.flags.malfunction = true
  /-- R615: under remote operation both enable lines are asserted. -/
  remoteLines : s.flags.remoteOperation = true → s.lines.remoteEn = true ∧ s.lines.damperEn = true
  /-- R807: once remote operation has been inactive for a whole cycle both enable lines are inactive. -/
  idleLines : s.flags.remoteOperation = false → s.ctl.remotePrev = false →
    s.lines.remoteEn = false ∧ s.lines.damperEn = false
  /-- R809, R810: a halted ACC has released every line. -/
  haltedLines : s.ctl.halted = true → s.flags.remoteOperation = false ∧ s.damper.adjusting = false ∧
    s.lines.remoteEn = false ∧ s.lines.damperEn = false ∧ s.lines.damperStop = false ∧ s.lines.damperZone = false
  /-- R1000, R1011: during the reset sequence ACC is neither halted nor under remote operation. -/
  booting : s.ctl.resetPending = true →
    s.ctl.halted = false ∧ s.flags.remoteOperation = false ∧ s.ctl.remotePrev = false

/-- A state between cycles, past the reset sequence and not halted, with a legal configuration. -/
structure Running (s : State) : Prop where
  cfgWf : s.cfg.wf = true
  phase : s.ctl.phase = .ph0
  resetPending : s.ctl.resetPending = false
  halted : s.ctl.halted = false

/-- The supervisor and the host are silent: no command is queued and no shutdown is requested. -/
structure Quiet (s : State) : Prop where
  cmdq : s.ctl.cmdq = []
  shutdownReq : s.inp.shutdownReq = false

/-- Remote operation is and was inactive, and nothing is being drained. -/
structure Idle (s : State) : Prop where
  remoteOperation : s.flags.remoteOperation = false
  remotePrev : s.ctl.remotePrev = false
  term : s.ctl.term = .none
  drainCnt : s.ctl.drainCnt.toNat = 0

/-- The events of `k` idle cycles from a heartbeat count of 0 (R700, R701, R800): the heartbeat in the cycle whose tick
makes the count `HB_EMIT`, and the idle wait of every cycle. -/
def idleEvents (c : Cfg) : Nat → List Event
  | 0 => []
  | k + 1 => idleEvents c k ++ (if k + 1 = c.hbEmit then [.heartbeat, .wait .idle] else [.wait .idle])

/-- The events of `Exchange()` before reception (R803). -/
def packet1Events (s : State) : List Event :=
  [.serFlush, .serWrite (encode1 s.cfg s.out.mode s.out.sp s.out.fan), .wait .txSettle, .serFlush, .wait .gap]

/-- What `ReceiveFrame()` finds in the exchange of this state: it reads the window that the second `SER_FLUSH` opens. -/
def exchangeReception (s : State) : Reception :=
  (scanFrame s.cfg s.cfg.p2Len none (s.inp.rxLater.tail.headD [])).1

/-- The fields this exchange transmits (R803). -/
def sentFields (s : State) : Sent := { mode := s.out.mode, sp := s.out.sp, fan := s.out.fan }

/-- The `FieldMismatchWarning` events of R406 for a valid Packet2. -/
def mismatchEvents (c : Cfg) (v : Packet2) (sent : Sent) : List Event :=
  (if v.reserved = c.reservedSentinel then [] else [.diag 3 (.field 0 v.reserved)]) ++
    (if v.mode = sent.mode then [] else [.diag 3 (.field 1 v.mode)]) ++
    (if v.sp = sent.sp then [] else [.diag 3 (.field 2 v.sp)]) ++
    (if v.fan = sent.fan then [] else [.diag 3 (.field 3 v.fan)])

/-- The condition a failed reception raises, if it failed (R804): its `DIAG` event. -/
def receptionFailure (c : Cfg) : Reception → Option Event
  | .frameNotFound => some (.diag 2 .nothing)
  | .short b => some (.diag 1 (.short b.length))
  | .frame b =>
    match decodePacket2 c b with
    | none => some (.diag 1 (.mismatch (byteAt b c.p2CsumSpan)))
    | some _ => none

/-- The registers a release of the lines leaves (R807, R810). -/
def releasedLines : LineState := { remoteEn := false, damperEn := false, damperStop := false, damperZone := false }

/-- The events of a release of the lines, in the order of R807 and R810. -/
def releaseEvents : List Event :=
  [.line .remoteEn false, .line .damperEn false, .line .damperStop false, .line .damperZone false]

/-- `k` steps of the machine, stopping at the first refusal. -/
def run : Nat → State → Host.Outcome State Fault Refusal
  | 0, s => .next s
  | k + 1, s => andThen (step s) (run k)

end Sys2Proof.Machine
end

