-- ==== Sys2Proof/Certificates/Slice0/Obligations.lean ====
section
/-! DEFINITION. The statements for the provers, in the order of spec/.  Every statement quantifies over the state, and so
over every configuration a state can carry; where a rule needs R9, the configuration is assumed legal. -/

open Sys2Proof Sys2Proof.Machine

/-! ### 30_encoding.md -/

/-- R311, R305, R307: decoding the word an assembler writes gives the instruction back, for every operand it can write. -/
def Obligations.DecodeEncodeRoundTrip : Prop :=
  ∀ i : Instr, i.wf = true → decode (encode i) = .ok i

/-- R305, R307, R308, R311: an accepted word and the word of its instruction have the same code; the argument byte is
kept for `DAMPER_PERCENT` and written 0 for every other command; a word is rejected exactly when its code is at least
`0x0E`, and by its code.
The encoder's argument 0 is DEDUCED (notes/assumptions/12.md). -/
def Obligations.AcceptedWordsReassemble : Prop :=
  ∀ cw : Word,
    (∀ i, decode cw = .ok i →
      i.wf = true ∧ cwCode (encode i) = cwCode cw ∧
        ((∃ n, i = .damperPercent n) → encode i = cw) ∧
        ((∀ n, i ≠ .damperPercent n) → cwArg (encode i) = 0)) ∧
    ((∃ e, decode cw = .error e) ↔ 0x0E ≤ (cwCode cw).toNat) ∧
    (∀ e, decode cw = .error e → e = .unknownService (cwCode cw))

/-- R306, R307: the command code table, for every value of the argument byte. -/
def Obligations.CommandCodeTable : Prop :=
  ∀ a : Byte,
    decode (0x00#8 ++ a) = .ok .off ∧ decode (0x01#8 ++ a) = .ok .ventilate ∧
    decode (0x02#8 ++ a) = .ok .thermoHeat ∧ decode (0x03#8 ++ a) = .ok .thermoCool ∧
    decode (0x04#8 ++ a) = .ok .thermoAuto ∧ decode (0x05#8 ++ a) = .ok .heatMode ∧
    decode (0x06#8 ++ a) = .ok .coolMode ∧ decode (0x07#8 ++ a) = .ok .fanMode ∧
    decode (0x08#8 ++ a) = .ok .fanHi ∧ decode (0x09#8 ++ a) = .ok .fanMed ∧
    decode (0x0A#8 ++ a) = .ok .fanLo ∧ decode (0x0B#8 ++ a) = .ok (.damperPercent a.toNat) ∧
    decode (0x0C#8 ++ a) = .ok .updateStatus ∧ decode (0x0D#8 ++ a) = .ok .heartbeatAck ∧
    (∀ code : Byte, 0x0E ≤ code.toNat → decode (code ++ a) = .error (.unknownService code))

/-- Words written out from R305 and R306 decode to the commands they stand for. -/
def Obligations.DecodeWrittenWords : Prop :=
  decode 0x0000 = .ok .off ∧ decode 0x0300 = .ok .thermoCool ∧ decode 0x08A5 = .ok .fanHi ∧
    decode 0x0B32 = .ok (.damperPercent 50) ∧ decode 0x0BFF = .ok (.damperPercent 255) ∧
    decode 0x0D00 = .ok .heartbeatAck ∧ decode 0x0E00 = .error (.unknownService 0x0E) ∧
    decode 0xFF12 = .error (.unknownService 0xFF)

/-- R300, R402: Packet1 byte by byte; R301, R303, R403: Packet3 byte by byte, its header the sequence number, byte
counter first. -/
def Obligations.PacketLayouts : Prop :=
  ∀ (c : Cfg) (q : Word) (m t f : Byte),
    (let b := encode1 c m t f
     b.length = 7 + c.p1Trailer.length ∧ b[0]? = some c.p1Header.1 ∧ b[1]? = some c.p1Header.2 ∧ b[2]? = some m ∧
      b[3]? = some c.filler1 ∧ b[4]? = some t ∧ b[5]? = some f ∧
      (∀ j, j < c.p1Trailer.length → b[6 + j]? = c.p1Trailer[j]?) ∧
      b[6 + c.p1Trailer.length]? = some (checksum (b.take (6 + c.p1Trailer.length)))) ∧
    (let b := encode3 c q m t f
     b.length = 7 + c.p3Trailer.length ∧ b[0]? = some (q.extractLsb' 8 8) ∧ b[1]? = some (q.extractLsb' 0 8) ∧
      b[2]? = some m ∧ b[3]? = some c.filler1 ∧ b[4]? = some t ∧ b[5]? = some f ∧
      (∀ j, j < c.p3Trailer.length → b[6 + j]? = c.p3Trailer[j]?) ∧
      b[6 + c.p3Trailer.length]? = some (checksum (b.take (6 + c.p3Trailer.length))))

/-! ### 40_packet_codec.md -/

/-- R401: the source's text algorithm on the hex text of a packet gives the text of `Checksum`.
The digits of the text form (`hexDigit`, `hexValue`, `hex2`) are PRESUMED (notes/assumptions/19.md): R203 takes them "from
general knowledge, not in source". -/
def Obligations.TextChecksumAgrees : Prop :=
  ∀ b : List Byte, parseChunks (hexString b) = some (b.map BitVec.toNat) ∧
    textChecksum (hexString b) = some (hex2 (checksum b))

/-- R410: a list extended by its checksum has a matching checksum; as a Packet2 it is `VALID`. -/
def Obligations.ChecksumRoundTrip : Prop :=
  ∀ x : List Byte,
    checksum ((x ++ [checksum x]).take x.length) = byteAt (x ++ [checksum x]) x.length ∧
    ∀ c : Cfg, x.length = c.p2CsumSpan → (decodePacket2 c (x ++ [checksum x])).isSome = true

/-- R403: the first Packet3 after reset, under equal trailers, is Packet1 byte for byte; R812: in every exchange bytes
2, 4 and 5 of the two packets are equal. -/
def Obligations.PacketsAgree : Prop :=
  ∀ (c : Cfg) (q : Word) (m t f : Byte),
    (encode1 c m t f)[2]? = (encode3 c q m t f)[2]? ∧ (encode1 c m t f)[4]? = (encode3 c q m t f)[4]? ∧
      (encode1 c m t f)[5]? = (encode3 c q m t f)[5]? ∧
      (c.p3Trailer = c.p1Trailer → encode3 c (State.resetWith c).seq m t f = encode1 c m t f)

/-- R404: what `ReceiveFrame()` finds, and what it leaves in the window.  With no marker among the bytes read before:
(a) a marker that completes within the first `P2_LEN` bytes, followed by all `P2_LEN - 2` bytes of the body, gives the
frame; (b) followed by fewer bytes and a timeout or nothing, a short frame; (c) no marker among the bytes read, up to
`P2_LEN` of them or up to a timeout or the end, gives no frame.
The oracle as windows is the model's form of R207 (DEDUCED, notes/assumptions/6.md). -/
def Obligations.ReceiveFrameOutcomes : Prop :=
  (∀ (c : Cfg) (junk body : List Byte) (rest : List RxDraw),
    (∀ k, k < junk.length → ¬ markerAt c (junk ++ [c.p2Header.1, c.p2Header.2]) k) →
    junk.length + 2 ≤ c.p2Len →
    (body.length = c.p2Len - 2 →
      scanFrame c c.p2Len none (RxDraw.bytes (junk ++ [c.p2Header.1, c.p2Header.2] ++ body) ++ rest) =
        (.frame ([c.p2Header.1, c.p2Header.2] ++ body), rest)) ∧
    (body.length < c.p2Len - 2 →
      scanFrame c c.p2Len none (RxDraw.bytes (junk ++ [c.p2Header.1, c.p2Header.2] ++ body)) =
        (.short ([c.p2Header.1, c.p2Header.2] ++ body), []) ∧
      scanFrame c c.p2Len none (RxDraw.bytes (junk ++ [c.p2Header.1, c.p2Header.2] ++ body) ++ .timeout :: rest) =
        (.short ([c.p2Header.1, c.p2Header.2] ++ body), rest))) ∧
  (∀ (c : Cfg) (b : List Byte) (rest : List RxDraw),
    (∀ k, ¬ markerAt c b k) →
    (b.length < c.p2Len →
      scanFrame c c.p2Len none (RxDraw.bytes b) = (.frameNotFound, []) ∧
      scanFrame c c.p2Len none (RxDraw.bytes b ++ .timeout :: rest) = (.frameNotFound, rest)) ∧
    (b.length = c.p2Len → scanFrame c c.p2Len none (RxDraw.bytes b ++ rest) = (.frameNotFound, rest)))

/-- R404, R200: whatever the oracle sends, a frame has exactly `P2_LEN` bytes and a short frame fewer, both begin with the
marker, and the draws consumed are an initial part of the window.
Windows: notes/assumptions/6.md (DEDUCED). -/
def Obligations.ReceivedFramesAreWhole : Prop :=
  ∀ (c : Cfg) (w : List RxDraw),
    (∀ b, (scanFrame c c.p2Len none w).1 = .frame b →
      b.length = c.p2Len ∧ b.take 2 = [c.p2Header.1, c.p2Header.2]) ∧
    (∀ b, (scanFrame c c.p2Len none w).1 = .short b →
      b.length < c.p2Len ∧ b.take 2 = [c.p2Header.1, c.p2Header.2]) ∧
    (∃ used, w = used ++ (scanFrame c c.p2Len none w).2)

/-- R405: the checksum alone decides validity, and a valid packet is split by offset. -/
def Obligations.DecodeBySumAndOffset : Prop :=
  ∀ (c : Cfg) (b : List Byte),
    (checksum (b.take c.p2CsumSpan) ≠ byteAt b c.p2CsumSpan → decodePacket2 c b = none) ∧
    (checksum (b.take c.p2CsumSpan) = byteAt b c.p2CsumSpan →
      decodePacket2 c b = some
        { mode := byteAt b c.p2Off.mode, sp := byteAt b c.p2Off.sp, fan := byteAt b c.p2Off.fan,
          temp := byteAt b c.p2Off.temp, reserved := byteAt b c.p2Off.reserved,
          alerts := byteAt b c.p2Off.alerts, compressor := byteAt b c.p2Off.compressor })

/-- R406, R407: the field checks emit their warnings in the order reserved, mode, set-point, fan, and change nothing
else. -/
def Obligations.DiagnoseWarnsInOrder : Prop :=
  ∀ (v : Packet2) (sent : Sent) (s : State),
    diagnose v sent s = { s with trace := s.trace ++ mismatchEvents s.cfg v sent }

/-- R408: the next sequence number for ANY 16-bit input, in or out of the legal ranges. -/
def Obligations.SeqNextCounters : Prop :=
  ∀ (c : Cfg) (w : Word), c.wf = true →
    (seqNext c w).extractLsb' 0 4 = 0xF#4 ∧
    ((seqNib w).toNat < c.seqNibMax →
      (seqNib (seqNext c w)).toNat = (seqNib w).toNat + 1 ∧ seqHigh (seqNext c w) = seqHigh w) ∧
    (c.seqNibMax ≤ (seqNib w).toNat →
      (seqNib (seqNext c w)).toNat = c.seqNibMin ∧
        (seqHigh (seqNext c w)).toNat =
          if (seqHigh w).toNat < c.seqByteMax then (seqHigh w).toNat + 1 else 0)

/-- R409: `SeqNext` maps the sequence space into itself, and from any member it visits every member exactly once before
it returns; with the default ranges the cycle has 204 values. -/
def Obligations.SequenceCycle : Prop :=
  ∀ (c : Cfg) (w : Word), c.wf = true → seqSpace c w →
    seqSpace c (seqNext c w) ∧
    (seqNext c)^[seqPeriod c] w = w ∧
    (∀ k, 0 < k → k < seqPeriod c → (seqNext c)^[k] w ≠ w) ∧
    (∀ v, seqSpace c v → ∃ k, k < seqPeriod c ∧ (seqNext c)^[k] w = v) ∧
    (c.seqByteMax = 0x32 → c.seqNibMin = 0x8 → c.seqNibMax = 0xB → seqPeriod c = 204)

/-! ### 41_damper.md -/

/-- R208, R500, R501: a sensor draw is the next scripted pair, or a free value where none is scripted, within the axes'
widths; one raw reading is its combination, below `2^RAW_W`; it touches only the sensor's inputs and emits the sample.
The script and the free value are the model's (DESIGN CHOICE, notes/assumptions/7.md). -/
def Obligations.ReadingsWithinWidths : Prop :=
  ∀ s : State,
    (∀ x y rest, s.inp.samples = (x, y) :: rest →
      sample s = ((x % 2 ^ s.cfg.xW, y % 2 ^ s.cfg.yW), { s with inp.samples := rest })) ∧
    (s.inp.samples = [] → (sample s).2 = { s with inp.sampleCtr := s.inp.sampleCtr + 1 }) ∧
    (sample s).1.1 < 2 ^ s.cfg.xW ∧ (sample s).1.2 < 2 ^ s.cfg.yW ∧ (readRaw s).1 < 2 ^ s.cfg.rawW ∧
    readRaw s = (s.cfg.combine (sample s).1.1 (sample s).1.2,
      { s with inp := (sample s).2.inp, trace := s.trace ++ [.sensorSample (sample s).1.1 (sample s).1.2] })

/-- R504: the integer evaluation equals the quantisation of the exact interpolation of R502; under the default literals
it is R504's text; under a legal configuration the result is a multiple of the step in 0..100, and so fits `REPORTED`,
and a higher reading never gives a higher percentage.
The literals as parameters, and their constraint, are the model's form of R5 (DESIGN CHOICE, notes/assumptions/22.md). -/
def Obligations.LinearizeIsExact : Prop :=
  ∀ (c : Cfg) (r day night : Nat), day < night →
    linearize c r day night = quantize c (percentage r day night) ∧
    (c.quantLow = 5 → c.quantHigh = 95 → c.quantStep = 10 →
      let n : Int := (night : Int) - r
      let d : Int := (night : Int) - day
      (linearize c r day night : Int) =
        if 20 * n ≥ 19 * d then 100 else if 20 * n ≤ d then 0 else 10 * ((20 * n + d) / (2 * d))) ∧
    (c.wf = true →
      linearize c r day night % c.quantStep = 0 ∧ linearize c r day night ≤ 100 ∧
        (BitVec.ofNat 7 (linearize c r day night)).toNat = linearize c r day night ∧
        (∀ r', r ≤ r' → linearize c r' day night ≤ linearize c r day night))

/-- R503: under the default literals, the boundary ownership of every result, and monotonicity. -/
def Obligations.QuantizeOwnership : Prop :=
  ∀ c : Cfg, c.quantLow = 5 → c.quantHigh = 95 → c.quantStep = 10 →
    (∀ p : Rat, 95 ≤ p → quantize c p = 100) ∧ (∀ p : Rat, p ≤ 5 → quantize c p = 0) ∧
    (∀ p : Rat, 5 < p → p < 15 → quantize c p = 10) ∧
    (∀ (k : Nat) (p : Rat), 2 ≤ k → k ≤ 9 → 10 * (k : Rat) - 5 ≤ p → p < 10 * (k : Rat) + 5 → quantize c p = 10 * k) ∧
    (∀ p q : Rat, p ≤ q → quantize c p ≤ quantize c q)

/-- R505: the three-way policy, and the drive into the end stops at 0 and 100; R1006: so the damper rests only at a
request strictly between 0 and 100 that is a multiple of 10. -/
def Obligations.DrivePolicy : Prop :=
  ∀ req rep : Nat,
    (req > rep → drive req rep = .day) ∧ (req < rep → drive req rep = .night) ∧
    (req = rep → 0 < req → req < 100 → drive req rep = .hold) ∧
    (req = rep → req = 100 → drive req rep = .day) ∧ (req = rep → req = 0 → drive req rep = .night) ∧
    (req ≤ 100 → rep % 10 = 0 → drive req rep = .hold → req % 10 = 0 ∧ 0 < req ∧ req < 100 ∧ rep = req)

/-- R506: the registers, the events and their order for each zone. -/
def Obligations.ApplyZoneLines : Prop :=
  ∀ s : State,
    applyZone .hold s = { s with lines.damperStop := true, damper.adjusting := false,
                                 trace := s.trace ++ [.line .damperStop true] } ∧
    applyZone .day s = { s with lines.damperZone := s.cfg.zoneDayLevel, lines.damperStop := false,
                                damper.adjusting := true,
                                trace := s.trace ++ [.line .damperZone s.cfg.zoneDayLevel, .line .damperStop false] } ∧
    applyZone .night s = { s with lines.damperZone := !s.cfg.zoneDayLevel, lines.damperStop := false,
                                  damper.adjusting := true,
                                  trace := s.trace ++ [.line .damperZone (!s.cfg.zoneDayLevel), .line .damperStop false] }

/-- R507, R508: one adjustment step, whatever the sensor gives, under sound and under degenerate references; a `RAW` of
the width `RAW_W` holds the reading.
An unscripted reading is a free value (notes/assumptions/7.md). -/
def Obligations.DamperAdjustStep : Prop :=
  ∀ s : State,
    let p := (sample s).1
    let reading := s.cfg.combine p.1 p.2
    let raw := s.damper.raw.write reading
    let day := s.damper.dayRef.toNat
    let night := s.damper.nightRef.toNat
    (s.damper.raw.width = s.cfg.rawW → raw.toNat = reading) ∧
    (night ≤ day →
      damperAdjust s = { s with
        inp := (sample s).2.inp, damper.raw := raw, damper.adjusting := false, lines.damperStop := true
        trace := s.trace ++ [.sensorSample p.1 p.2, .diag 7 (.references day night), .line .damperStop true] }) ∧
    (day < night →
      let rep := BitVec.ofNat 7 (linearize s.cfg reading day night)
      damperAdjust s = applyZone (drive s.damper.req.toNat rep.toNat)
        { s with inp := (sample s).2.inp, damper.raw := raw, damper.reported := rep
                 trace := s.trace ++ [.sensorSample p.1 p.2] })

/-- R509: the calibration, whatever the sensor gives: every register it writes, every event in order, nothing else.
Unscripted readings are free values (notes/assumptions/7.md). -/
def Obligations.CalibrateResult : Prop :=
  ∀ s : State,
    let n := (sample s).1
    let s1 := { s with inp := (sample s).2.inp }
    let d := (sample s1).1
    let night := s.damper.nightRef.write (s.cfg.combine n.1 n.2)
    let day := s.damper.dayRef.write (s.cfg.combine d.1 d.2)
    let raw := s.damper.raw.write (s.cfg.combine d.1 d.2)
    calibrate s = { s with
      inp := (sample s1).2.inp
      damper := { s.damper with nightRef := night, dayRef := day, raw := raw, reported := 100, adjusting := false }
      lines := { s.lines with damperEn := false, damperZone := s.cfg.zoneDayLevel, damperStop := true }
      trace := s.trace ++
        [.sensorSelftest .enter, .sensorSelftest .exit, .line .damperEn true, .line .damperZone (!s.cfg.zoneDayLevel),
          .line .damperStop false, .wait .calTravel, .sensorSample n.1 n.2, .line .damperZone s.cfg.zoneDayLevel,
          .wait .calTravel, .sensorSample d.1 d.2, .line .damperStop true, .line .damperEn false] ++
        (if night.toNat ≤ day.toNat then [.diag 8 (.references day.toNat night.toNat)] else []) }

/-! ### 42_mode_commands.md -/

/-- R600: `OFF` completes, with the whole next state. -/
def Obligations.OffResult : Prop :=
  ∀ s : State,
    let f := { s.flags with heat := false, cool := false, fanOn := false, fanHi := false, fanMed := false,
                            fanLo := false }
    exec .off s = .next { s with
      out.mode := s.cfg.modeOff, flags := f
      ctl.drainCnt := if s.flags.remoteOperation = true ∧ s.ctl.drainCnt.toNat = 0
                      then s.ctl.drainCnt.write s.cfg.offDrainCycles else s.ctl.drainCnt
      trace := s.trace ++ [.status (statusRec { s with flags := f })] }

/-- R601, R602, R603, R615: the three commands complete.  If remote operation is inactive, the two enable lines are
asserted, the settle delay passes and remote operation starts; otherwise no line is written.  A pending Off teardown is
cancelled unless a terminal sequence is pending; the outbound fields and the flags are written; one notification. -/
def Obligations.RemoteModesResult : Prop :=
  ∀ s : State,
    let hi := { s.flags with remoteOperation := true, heat := false, cool := false, fanOn := true, fanHi := true,
                             fanMed := false, fanLo := false }
    let lo := { s.flags with remoteOperation := true, heat := false, cool := false, fanOn := true, fanHi := false,
                             fanMed := false, fanLo := true }
    let drain := if s.ctl.term = .none then s.ctl.drainCnt.write 0 else s.ctl.drainCnt
    let on := if s.flags.remoteOperation then s.lines else { s.lines with remoteEn := true, damperEn := true }
    let evs := if s.flags.remoteOperation then [] else
      [Event.line .remoteEn true, Event.line .damperEn true, Event.wait .remoteSettle]
    exec .ventilate s = .next { s with
      out := ⟨s.cfg.modeFanOn, s.cfg.spCode s.cfg.spVentDeg, s.cfg.fanHi⟩, flags := hi, lines := on
      ctl.drainCnt := drain, trace := s.trace ++ evs ++ [.status (statusRec { s with flags := hi })] } ∧
    exec .thermoHeat s = .next { s with
      out := ⟨s.cfg.modeFanOn, s.cfg.spCode s.cfg.spHeatDeg, s.cfg.fanLo⟩, flags := lo, lines := on
      ctl.drainCnt := drain, trace := s.trace ++ evs ++ [.status (statusRec { s with flags := lo })] } ∧
    exec .thermoCool s = .next { s with
      out := ⟨s.cfg.modeFanOn, s.cfg.spCode s.cfg.spCoolDeg, s.cfg.fanLo⟩, flags := lo, lines := on
      ctl.drainCnt := drain, trace := s.trace ++ evs ++ [.status (statusRec { s with flags := lo })] }

/-- R604: `THERMO_AUTO` completes and does nothing. -/
def Obligations.ThermoAutoNoOp : Prop :=
  ∀ s : State, exec .thermoAuto s = .next s

/-- R605, R606, R607: `HEAT_MODE`, `COOL_MODE` and `FAN_MODE` complete; no remote enable; `FAN_MODE` keeps `SP`. -/
def Obligations.LocalModesResult : Prop :=
  ∀ s : State,
    let h := { s.flags with heat := true, cool := false, fanOn := false, fanHi := true, fanMed := false, fanLo := false }
    let c := { s.flags with heat := false, cool := true, fanOn := false, fanHi := true, fanMed := false, fanLo := false }
    let f := { s.flags with heat := false, cool := false, fanOn := true, fanHi := false, fanMed := false, fanLo := true }
    exec .heatMode s = .next { s with
      out := ⟨s.cfg.modeHeatOn, s.cfg.spCode s.cfg.spHeatDeg, s.cfg.fanHi⟩, flags := h
      trace := s.trace ++ [.status (statusRec { s with flags := h })] } ∧
    exec .coolMode s = .next { s with
      out := ⟨s.cfg.modeCoolOn, s.cfg.spCode s.cfg.spCoolDeg, s.cfg.fanHi⟩, flags := c
      trace := s.trace ++ [.status (statusRec { s with flags := c })] } ∧
    exec .fanMode s = .next { s with
      out := ⟨s.cfg.modeFanOn, s.out.sp, s.cfg.fanLo⟩, flags := f
      trace := s.trace ++ [.status (statusRec { s with flags := f })] }

/-- R608, R609, R610: the fan-speed commands complete and touch only the fan-speed code, its flags and the trace. -/
def Obligations.FanSpeedResult : Prop :=
  ∀ s : State,
    let hi := { s.flags with fanHi := true, fanMed := false, fanLo := false }
    let med := { s.flags with fanHi := false, fanMed := true, fanLo := false }
    let lo := { s.flags with fanHi := false, fanMed := false, fanLo := true }
    exec .fanHi s = .next { s with out.fan := s.cfg.fanHi, flags := hi
                                   trace := s.trace ++ [.status (statusRec { s with flags := hi })] } ∧
    exec .fanMed s = .next { s with out.fan := s.cfg.fanMed, flags := med
                                    trace := s.trace ++ [.status (statusRec { s with flags := med })] } ∧
    exec .fanLo s = .next { s with out.fan := s.cfg.fanLo, flags := lo
                                   trace := s.trace ++ [.status (statusRec { s with flags := lo })] }

/-- R611: a percentage up to 100 is stored as given in the 7 bits of `REQ`, without a notification; a larger one is refused with
`BadArgument` and changes no register. -/
def Obligations.DamperPercentResult : Prop :=
  ∀ (s : State) (n : Nat),
    (n ≤ 100 → exec (.damperPercent n) s = .next { s with damper.req := BitVec.ofNat 7 n } ∧
      (BitVec.ofNat 7 n).toNat = n) ∧
    (100 < n → exec (.damperPercent n) s = .next { s with trace := s.trace ++ [.diag 6 (.number n)] })

/-- R612, R111: `UPDATE_STATUS` completes; it publishes the status record of the registers and changes none. -/
def Obligations.UpdateStatusResult : Prop :=
  ∀ s : State, exec .updateStatus s = .next { s with trace := s.trace ++ [.status
    { remoteOperation := s.flags.remoteOperation, heat := s.flags.heat, cool := s.flags.cool, fan := s.flags.fanOn,
      fanHi := s.flags.fanHi, fanMed := s.flags.fanMed, fanLo := s.flags.fanLo, heating := s.flags.heating,
      compressor := s.flags.compressor, malfunction := s.flags.malfunction, damperPercent := s.damper.reported,
      filter := s.flags.filter }] }

/-- R613, R703: `HEARTBEAT_ACK` completes; it zeroes the count, clears `MISSED` and changes nothing else. -/
def Obligations.HeartbeatAckResult : Prop :=
  ∀ s : State, exec .heartbeatAck s = .next { s with hb := ⟨s.hb.cnt.write 0, false⟩ } ∧ (s.hb.cnt.write 0).toNat = 0

/-- The "State written" lines of R600 to R613 together: every command completes, and none writes anything outside the
outbound fields, the mode flags, `remote_operation`, `REQ`, the heartbeat registers, `DRAIN_CNT` and the two enable
lines; the trace only grows. -/
def Obligations.CommandsCompleteInFrame : Prop :=
  ∀ (i : Instr) (s : State), ∃ t, exec i s = .next t ∧ CommandFrame s t ∧ ∃ evs, Emits s t evs

/-- R1004, first sentence: only `VENTILATE`, `THERMO_HEAT` and `THERMO_COOL` start remote operation, and no command ends
it. -/
def Obligations.OnlyThreeCommandsStartRemote : Prop :=
  ∀ (i : Instr) (s t : State), exec i s = .next t → t.flags.remoteOperation ≠ s.flags.remoteOperation →
    (i = .ventilate ∨ i = .thermoHeat ∨ i = .thermoCool) ∧ t.flags.remoteOperation = true

/-- R616: an unknown code changes no state and emits only its `DIAG`; any word is discarded while a terminal sequence is
pending. -/
def Obligations.DispatchRejections : Prop :=
  ∀ (cw : Word) (s : State),
    (s.ctl.term = .none → 0x0E ≤ (cwCode cw).toNat →
      dispatch cw s = .next { s with trace := s.trace ++ [.diag 5 (.number (cwCode cw).toNat)] }) ∧
    (s.ctl.term ≠ .none → dispatch cw s = .next { s with trace := s.trace ++ [.diag 9 (.command cw)] }) ∧
    (s.ctl.term = .none → ∀ i, decode cw = .ok i → dispatch cw s = exec i s)

/-! ### 43_watchdog.md -/

/-- R700, R701, R702: one tick, in each case; a counter of the width R105 gives counts exactly. -/
def Obligations.WatchdogTickCases : Prop :=
  ∀ s : State,
    let cnt := s.hb.cnt.write (s.hb.cnt.toNat + 1)
    let s1 := { s with
      hb.cnt := cnt, trace := s.trace ++ (if cnt.toNat = s.cfg.hbEmit then [.heartbeat] else []) }
    (s.hb.cnt.width = s.cfg.hbCntWidth → s.hb.cnt.toNat ≤ s.cfg.hbLost → cnt.toNat = s.hb.cnt.toNat + 1) ∧
    (s.ctl.term ≠ .none → watchdogTick s = s) ∧
    (s.ctl.term = .none → cnt.toNat ≤ s.cfg.hbLost → watchdogTick s = s1) ∧
    (s.ctl.term = .none → s.cfg.hbLost < cnt.toNat →
      watchdogTick s =
        let f := { s.flags with malfunction := true, heat := false, cool := false, fanOn := false, fanHi := false,
                                fanMed := false, fanLo := false }
        { s1 with
          hb.missed := true, out.mode := s.cfg.modeOff, flags := f, ctl.term := .fatal
          ctl.drainCnt := s.ctl.drainCnt.write s.cfg.offDrainCycles
          trace := s1.trace ++ [.diag 4 (.number cnt.toNat), .status (statusRec { s with flags := f })] })

/-- R704: from a zero count and without an acknowledgment there is exactly one heartbeat, at the `HB_EMIT`-th tick (none
where `HB_EMIT` is 0, which R9 allows and no count after a tick equals), and exactly one link-lost sequence, at the tick
after `HB_LOST`; every later tick changes nothing. -/
def Obligations.WatchdogFiresOnce : Prop :=
  ∀ s : State, s.cfg.wf = true → s.ctl.term = .none → s.hb.cnt = .ofNat s.cfg.hbCntWidth 0 →
    (∀ k, k ≤ s.cfg.hbLost →
      watchdogTick^[k] s =
        { s with hb.cnt := s.hb.cnt.write k
                 trace := s.trace ++ (if 1 ≤ s.cfg.hbEmit ∧ s.cfg.hbEmit ≤ k then [.heartbeat] else []) }) ∧
    (∀ k, s.cfg.hbLost < k →
      watchdogTick^[k] s =
        linkLost { s with hb.cnt := s.hb.cnt.write (s.cfg.hbLost + 1)
                          trace := s.trace ++ (if 1 ≤ s.cfg.hbEmit then [.heartbeat] else []) })

/-! ### 44_control_loop.md -/

/-- R802, R210, R212: the words present when PH1 begins are applied in enqueue order, one whole command after another:
each is dequeued and then dispatched (R616), and the next is dispatched on the state that leaves; every one of them is
dequeued. -/
def Obligations.CommandsApplyInOrder : Prop :=
  (∀ s : State, drainCommands s = drainWords s.ctl.cmdq s) ∧
    (∀ s : State, drainWords [] s = .next s) ∧
    (∀ (cw : Word) (rest : List Word) (s : State), drainWords (cw :: rest) s =
      andThen (dispatch cw { s with ctl.cmdq := s.ctl.cmdq.tail }) (drainWords rest)) ∧
    (∀ (a b : List Word) (s : State), drainWords (a ++ b) s = andThen (drainWords a s) (drainWords b)) ∧
    (∀ s : State, ∃ t, drainCommands s = .next t ∧ t.ctl.cmdq = [])

/-- R616, R1008: while a terminal sequence is pending every queued word is dequeued, reported and discarded, in order,
and nothing else changes. -/
def Obligations.TerminalDiscardsQueue : Prop :=
  ∀ s : State, s.ctl.term ≠ .none →
    drainCommands s = .next { s with ctl.cmdq := [], trace := s.trace ++ s.ctl.cmdq.map (fun cw => .diag 9 (.command cw)) }

/-- R800, R802: when the oldest queued word decodes to a command, a step runs that command on the state with the word
dequeued (in phase PH1), then the later words, then the rest of the cycle.
One step is one cycle (DESIGN CHOICE, notes/assumptions/3.md). -/
def Obligations.StepRunsDecodedCommand : Prop :=
  ∀ (s t : State) (cw : Word) (rest : List Word) (i : Instr),
    Running s → s.inp.shutdownReq = false → s.ctl.term = .none → s.ctl.cmdq = cw :: rest → decode cw = .ok i →
    exec i { s with ctl.phase := .ph1, ctl.cmdq := rest } = .next t →
    step s = andThen (drainWords rest t) (fun u => .next (afterCommands { u with ctl.phase := .ph2 }))

/-- R9, R900, R904: a step never faults; a legal configuration always steps, an illegal one is refused.
That nothing faults is DEDUCED (notes/assumptions/15.md).
The check adds three constraints to R9: two DEDUCED ones, `offsetsInside` and `reqInitLegal` (notes/assumptions/10.md), and
`quantLegal`, a DESIGN CHOICE (notes/assumptions/22.md). -/
def Obligations.StepsNeverTrap : Prop :=
  ∀ s : State, (s.cfg.wf = true → ∃ t, step s = .next t) ∧
    (s.cfg.wf = false → step s = .refused .badConfiguration)

/-- R801: once halted, every cycle does nothing, for ever.
One step is one cycle (notes/assumptions/3.md). -/
def Obligations.HaltedIsFinal : Prop :=
  ∀ (s : State) (k : Nat), s.cfg.wf = true → s.ctl.phase = .ph0 → s.ctl.resetPending = false → s.ctl.halted = true →
    run k s = .next s

/-- R803, R804, R811: an exchange whose reception fails transmits Packet1, raises the reception's condition, sets
`malfunction` (with a notification only on the edge), and sends no Packet3: `SEQ` and the outbound fields are as
before.
Windows: notes/assumptions/6.md (DEDUCED). -/
def Obligations.FailedExchange : Prop :=
  ∀ (s : State) (e : Event), receptionFailure s.cfg (exchangeReception s) = some e →
    ∃ w, exchange s = { s with
      inp := { s.inp with rxWindow := w, rxLater := s.inp.rxLater.tail.tail }
      flags.malfunction := true
      trace := s.trace ++ packet1Events s ++ [e] ++
        (if s.flags.malfunction then [] else [.status (statusRec { s with flags.malfunction := true })]) ++
        [.wait .finalGap] }

/-- R614, R617, R803, R804, R805: an exchange with a valid Packet2 mirrors the unit's state, clears `malfunction` unless
that is switched off or the watchdog has fired, notifies once per edge in the order compressor, heating, filter,
malfunction, sends the Packet3 rendered before reception, and advances `SEQ` once.
Windows: notes/assumptions/6.md (DEDUCED). -/
def Obligations.SuccessfulExchange : Prop :=
  ∀ (s : State) (b : List Byte) (v : Packet2), exchangeReception s = .frame b → decodePacket2 s.cfg b = some v →
    let f1 := { s.flags with compressor := s.cfg.isCompressorOn v.compressor }
    let f2 := { f1 with heating := s.cfg.isWarmup v.alerts }
    let f3 := { f2 with filter := s.cfg.isFilter v.alerts }
    let f4 := { f3 with
      malfunction := if s.cfg.malfClearOnValid = true ∧ s.hb.missed = false then false else s.flags.malfunction }
    ∃ w, exchange s = { s with
      inp := { s.inp with rxWindow := w, rxLater := s.inp.rxLater.tail.tail }
      rxTemp := v.temp
      seq := seqNext s.cfg s.seq
      flags := f4
      trace := s.trace ++ packet1Events s ++ mismatchEvents s.cfg v (sentFields s) ++
        (if f1.compressor = s.flags.compressor then [] else [.status (statusRec { s with flags := f1 })]) ++
        (if f2.heating = s.flags.heating then [] else [.status (statusRec { s with flags := f2 })]) ++
        (if f3.filter = s.flags.filter then [] else [.status (statusRec { s with flags := f3 })]) ++
        (if f4.malfunction = s.flags.malfunction then [] else [.status (statusRec { s with flags := f4 })]) ++
        [.serWrite (encode3 s.cfg s.seq s.out.mode s.out.sp s.out.fan), .wait .finalGap] }

/-- R614: the mirrored registers, and one notification per changed flag, in the order compressor, heating, filter. -/
def Obligations.ObserveEdges : Prop :=
  ∀ (v : Packet2) (s : State),
    let f1 := { s.flags with compressor := s.cfg.isCompressorOn v.compressor }
    let f2 := { f1 with heating := s.cfg.isWarmup v.alerts }
    let f3 := { f2 with filter := s.cfg.isFilter v.alerts }
    observe v s = { s with
      rxTemp := v.temp, flags := f3
      trace := s.trace ++
        (if f1.compressor = s.flags.compressor then [] else [.status (statusRec { s with flags := f1 })]) ++
        (if f2.heating = s.flags.heating then [] else [.status (statusRec { s with flags := f2 })]) ++
        (if f3.filter = s.flags.filter then [] else [.status (statusRec { s with flags := f3 })]) }

/-- R805, R1010: over a whole step of a running ACC, `SEQ` either stays or advances by one `SeqNext`, and it advances only
in a step that writes a Packet3 with the number it had. -/
def Obligations.SequenceContinuity : Prop :=
  ∀ s t : State, Running s → step s = .next t →
    t.seq = s.seq ∨
      (t.seq = seqNext s.cfg s.seq ∧
        ∃ pre post m sp f, t.trace = s.trace ++ pre ++ [.serWrite (encode3 s.cfg s.seq m sp f)] ++ post)

/-- R800, R806: phase PH3 exchanges packets and adjusts the damper under remote operation, whatever the reception;
otherwise the damper is neither sampled nor driven by an adjustment: PH3 deactivates once, or idles. -/
def Obligations.Phase3Branches : Prop :=
  ∀ s : State,
    (s.flags.remoteOperation = true → phase3 s = { damperAdjust (exchange s) with ctl.phase := .ph4 }) ∧
    (s.flags.remoteOperation = false → s.ctl.remotePrev = true → phase3 s = { deactivate s with ctl.phase := .ph4 }) ∧
    (s.flags.remoteOperation = false → s.ctl.remotePrev = false →
      phase3 s = { s with ctl.phase := .ph4, trace := s.trace ++ [.wait .idle] })

/-- R807: the deactivation step, whole. -/
def Obligations.DeactivateResult : Prop :=
  ∀ s : State,
    deactivate s = { s with
      lines := releasedLines, damper.adjusting := false, hb.cnt := s.hb.cnt.write 0, flags.malfunction := s.hb.missed
      trace := s.trace ++ releaseEvents ++ [.status (statusRec { s with flags.malfunction := s.hb.missed })] }

/-- R808, R809, R810: the drain countdown and the two terminal sequences it ends in. -/
def Obligations.DrainStepCases : Prop :=
  ∀ s : State,
    let d := s.ctl.drainCnt.toNat
    let left := s.ctl.drainCnt.write (d - 1)
    (d = 0 → drainStep s = s) ∧
    (1 < d → drainStep s = { s with ctl.drainCnt := left } ∧ left.toNat = d - 1) ∧
    (d = 1 → s.ctl.term = .none →
      drainStep s = { s with ctl.drainCnt := left, flags.remoteOperation := false } ∧ left.toNat = 0) ∧
    (d = 1 → s.ctl.term = .fatal →
      let f := { s.flags with remoteOperation := false, malfunction := s.hb.missed }
      drainStep s = { s with
        ctl.drainCnt := left, ctl.halted := true, flags := f, lines := releasedLines, damper.adjusting := false
        hb.cnt := s.hb.cnt.write 0
        trace := s.trace ++ releaseEvents ++ [.status (statusRec { s with flags := f }), .restartNotice, .fatalRestart] }) ∧
    (d = 1 → s.ctl.term = .shutdown →
      drainStep s = { s with
        ctl.drainCnt := left, ctl.halted := true, flags.remoteOperation := false, lines := releasedLines
        damper.adjusting := false
        trace := s.trace ++ releaseEvents ++ [.close .sensor, .close .serial, .exit] })

/-- R808, R809, R810 over runs: once a terminal sequence is pending ACC halts after exactly the drain that is left, not
earlier, whatever the commands, the unit and the sensor do; every line is released, and the last event is `FATAL_RESTART`
after a lost link and `EXIT` after a shutdown.
One step is one cycle (notes/assumptions/3.md). -/
def Obligations.TerminalSequenceHalts : Prop :=
  ∀ s : State, s.Inv → Running s → s.ctl.term ≠ .none →
    (∀ j, j < s.ctl.drainCnt.toNat → ∃ u, run j s = .next u ∧ u.ctl.halted = false) ∧
    ∃ t, run s.ctl.drainCnt.toNat s = .next t ∧ t.ctl.halted = true ∧ t.ctl.term = s.ctl.term ∧
      t.lines = releasedLines ∧
      (s.ctl.term = .fatal → t.trace.getLast? = some .fatalRestart ∧ t.flags.malfunction = true) ∧
      (s.ctl.term = .shutdown → t.trace.getLast? = some .exit)

/-- R808, R1005: an Off drain under remote operation, with a silent supervisor and enough heartbeat count left, keeps the
link for every cycle before its last and then tears it down, without halting.
One step is one cycle (notes/assumptions/3.md). -/
def Obligations.OffDrainTearsDown : Prop :=
  ∀ s : State, s.Inv → Running s → Quiet s → s.ctl.term = .none → 0 < s.ctl.drainCnt.toNat →
    s.hb.cnt.toNat + s.ctl.drainCnt.toNat ≤ s.cfg.hbLost →
    (∀ j, j < s.ctl.drainCnt.toNat → ∃ u, run j s = .next u ∧ u.flags.remoteOperation = true) ∧
    (∃ t, run s.ctl.drainCnt.toNat s = .next t ∧ t.flags.remoteOperation = false ∧ t.ctl.remotePrev = true ∧
      t.ctl.term = .none ∧ t.ctl.halted = false)

/-! ### 60_exceptions.md -/

/-- R901: the codes and info fields of the conditions; R900: raising one appends its `DIAG` and changes nothing else. -/
def Obligations.ConditionEvents : Prop :=
  (∀ (c : Condition) (s : State), raise c s = { s with trace := s.trace ++ [.diag c.code c.info] }) ∧
    (∀ (b code : Byte) (n d k : Nat) (cw : Word),
      (Condition.checksumMismatch b).event = .diag 1 (.mismatch b) ∧
      (Condition.checksumShort n).event = .diag 1 (.short n) ∧
      Condition.frameNotFound.event = .diag 2 .nothing ∧
      (Condition.fieldMismatch .reserved b).event = .diag 3 (.field 0 b) ∧
      (Condition.fieldMismatch .mode b).event = .diag 3 (.field 1 b) ∧
      (Condition.fieldMismatch .sp b).event = .diag 3 (.field 2 b) ∧
      (Condition.fieldMismatch .fan b).event = .diag 3 (.field 3 b) ∧
      (Condition.supervisorLinkLost n).event = .diag 4 (.number n) ∧
      (Condition.unknownService code).event = .diag 5 (.number code.toNat) ∧
      (Condition.badArgument n).event = .diag 6 (.number n) ∧
      (Condition.linearizerFault d k).event = .diag 7 (.references d k) ∧
      (Condition.calibrationInverted d k).event = .diag 8 (.references d k) ∧
      (Condition.commandIgnored cw).event = .diag 9 (.command cw))

/-- R902, R801: a shutdown request sampled with no terminal sequence pending runs `OFF`, latches the shutdown and arms
the drain; otherwise phase PH0 changes nothing.
R903 point 1, with R802 and R616: that comes before the commands of the same step, which so dequeues, reports and discards
every word then queued, in order; the rest of the cycle follows.
The request is the bare level at PH0 (DESIGN CHOICE, notes/assumptions/21.md); one step is one cycle
(notes/assumptions/3.md). -/
def Obligations.ShutdownSampledAtPhase0 : Prop :=
  ∀ s : State,
    let f := { s.flags with heat := false, cool := false, fanOn := false, fanHi := false, fanMed := false,
                            fanLo := false }
    (s.inp.shutdownReq = true → s.ctl.term = .none →
      phase0 s = { s with
        out.mode := s.cfg.modeOff, flags := f, ctl.term := .shutdown
        ctl.drainCnt := s.ctl.drainCnt.write s.cfg.offDrainCycles
        ctl.phase := .ph1, trace := s.trace ++ [.status (statusRec { s with flags := f })] }) ∧
    (s.inp.shutdownReq = false ∨ s.ctl.term ≠ .none → phase0 s = { s with ctl.phase := .ph1 }) ∧
    (Running s → s.inp.shutdownReq = true → s.ctl.term = .none →
      step s = .next (afterCommands { s with
        out.mode := s.cfg.modeOff, flags := f
        ctl := { s.ctl with
          phase := .ph2, term := .shutdown, drainCnt := s.ctl.drainCnt.write s.cfg.offDrainCycles, cmdq := [] }
        trace := s.trace ++ [.status (statusRec { s with flags := f })] ++
          s.ctl.cmdq.map (fun cw => .diag 9 (.command cw)) }))

/-- R903 point 2: an acknowledgment applied in the cycle whose tick would lose the link keeps the link. -/
def Obligations.LastMomentAckKeepsLink : Prop :=
  ∀ (s : State) (cw : Word), Running s → s.inp.shutdownReq = false → s.ctl.term = .none → s.hb.cnt.toNat = s.cfg.hbLost →
    1 ≤ s.cfg.hbLost → s.ctl.cmdq = [cw] → decode cw = .ok .heartbeatAck →
    ∃ t, step s = .next t ∧ t.ctl.term = .none ∧ t.ctl.halted = false ∧ t.hb.missed = false ∧ t.hb.cnt.toNat ≤ 1

/-! ### 20_memory.md, 70_reset_and_hazards.md -/

/-- R201: a word is accepted only while the queue is not full, at the end of the queue, and an enqueue changes nothing
else.
That the producer keeps the word is its own affair (DEDUCED, notes/assumptions/11.md). -/
def Obligations.EnqueueBackpressure : Prop :=
  ∀ (cw : Word) (s : State),
    (s.ctl.cmdq.length < s.cfg.cmdqDepth → enqueue cw s = { s with ctl.cmdq := s.ctl.cmdq ++ [cw] }) ∧
    (s.cfg.cmdqDepth ≤ s.ctl.cmdq.length → enqueue cw s = s)

/-- R1000, R112, R101 to R109: the registers a reset leaves and what the reset calibration then makes of them, whatever
the sensor gives.
Where a reset lands, that it starts a new trace and that it keeps the host's inputs are the model's (DESIGN CHOICE,
notes/assumptions/4.md, 17.md, 18.md). -/
def Obligations.ResetSequenceResult : Prop :=
  ∀ s : State, s.cfg.wf = true →
    let c := s.cfg
    let r := hostReset s
    let n := (sample r).1
    let r1 := { r with inp := (sample r).2.inp }
    let d := (sample r1).1
    let night := c.combine n.1 n.2
    let day := c.combine d.1 d.2
    ∃ t, step r = .next t ∧
      t.cfg = c ∧ t.out = ⟨c.modeOff, c.spInit, c.fanInit⟩ ∧ t.seq = c.p1Header.1 ++ c.p1Header.2 ∧
      t.flags = ⟨false, false, false, false, false, false, false, false, false, false, false⟩ ∧
      t.damper = ⟨BitVec.ofNat 7 c.reqInit, 100, .ofNat c.rawW day, .ofNat c.rawW day, .ofNat c.rawW night, false⟩ ∧
      t.damper.req.toNat = c.reqInit ∧ t.damper.dayRef.toNat = day ∧ t.damper.nightRef.toNat = night ∧
      t.hb = ⟨.ofNat c.hbCntWidth 0, false⟩ ∧
      t.lines = ⟨false, false, true, c.zoneDayLevel⟩ ∧
      t.ctl = ⟨.ph0, false, .ofNat c.drainCntWidth 0, .none, false, [], false⟩ ∧
      t.inp = (sample r1).2.inp ∧
      t.trace = (calibrate r).trace ∧ t.trace.head? = some (.sensorSelftest .enter)

/-- R911, R1000, R1002: no register value survives a reset: two states with the same configuration and inputs are
indistinguishable after it.
That a reset keeps the inputs is the model's (DESIGN CHOICE, notes/assumptions/17.md). -/
def Obligations.NothingSurvivesReset : Prop :=
  ∀ s t : State, s.cfg = t.cfg → s.inp = t.inp → hostReset s = hostReset t

/-- R1007, last sentence, with R700, R701, R800, R809: a supervisor that stays silent from an idle state with a zero
count sees one heartbeat (none where `HB_EMIT` is 0) and idle waits for `HB_LOST` cycles, then the link is lost, and after
the drain ACC has asked for a restart and halted.
One step is one cycle (notes/assumptions/3.md). -/
def Obligations.SilentSupervisorLosesLink : Prop :=
  ∀ s : State, Running s → Quiet s → Idle s → Sized s → s.hb.cnt = .ofNat s.cfg.hbCntWidth 0 →
    (∀ k, k ≤ s.cfg.hbLost →
      run k s = .next { s with hb.cnt := s.hb.cnt.write k, trace := s.trace ++ idleEvents s.cfg k }) ∧
    (∃ t, run (s.cfg.hbLost + 1) s = .next t ∧ t.ctl.term = .fatal ∧ t.flags.malfunction = true ∧ t.hb.missed = true) ∧
    (∃ t, run (s.cfg.hbLost + s.cfg.offDrainCycles) s = .next t ∧ t.ctl.halted = true ∧
      t.trace.getLast? = some .fatalRestart ∧ t.lines = releasedLines)

/-! ### Whole-machine rules -/

/-- R113 and the other facts of `State.Inv`: every step keeps the invariant. -/
def Obligations.StepKeepsInvariant : Prop :=
  ∀ s t : State, s.Inv → step s = .next t → t.Inv

/-- The invariant holds after a reset under every legal configuration, and of `State.reset`.
It uses that the five unspecified registers are reset to legal values (DESIGN CHOICE, notes/assumptions/5.md). -/
def Obligations.ResetMeetsInvariant : Prop :=
  (∀ c : Cfg, c.wf = true → (State.resetWith c).Inv) ∧ State.reset.Inv

/-- R201, R214: no move of the world outside ACC breaks the invariant.
The moves are the model's form of R214 (notes/assumptions/11.md, 17.md, 18.md). -/
def Obligations.HostMovesKeepInvariant : Prop :=
  ∀ (m : HostMove) (s : State), s.Inv → (hostMove m s).Inv

/-- R110, R206: no step changes the configuration, and the trace of a run only grows. -/
def Obligations.StepKeepsConfigAndTrace : Prop :=
  ∀ s t : State, step s = .next t → t.cfg = s.cfg ∧ ∃ evs, t.trace = s.trace ++ evs

/-- R100, R104, R105, R109: the registers are fixed-width.  No command and no step changes a width, a reset gives every
register the width of its table, a write keeps exactly the bits of the width, and `bits(n)` bits hold every value up to
`n`, 8 of them the heartbeat count under the default `HB_LOST`.
That a register of the wrong width, which no run reaches, keeps that width is the model's (notes/assumptions/9.md). -/
def Obligations.RegistersAreFixedWidth : Prop :=
  (∀ (i : Instr) (s t : State), exec i s = .next t → SameWidths s t) ∧
    (∀ s t : State, step s = .next t → SameWidths s t) ∧
    (∀ c : Cfg, Sized (State.resetWith c)) ∧
    (∀ (r : Reg) (n : Nat), (r.write n).width = r.width ∧ (r.write n).toNat = n % 2 ^ r.width) ∧
    (∀ c : Cfg, c.hbLost + 1 < 2 ^ c.hbCntWidth ∧ c.offDrainCycles < 2 ^ c.drainCntWidth ∧
      (c.hbLost = 200 → c.hbCntWidth = 8))
end

