-- ==== Sys2Proof/Laws/State.lean ====
section
/-! SUPPORT. One lemma per field of State for each primitive update of it, true by `rfl`, so that no later proof unfolds
a record update. -/

namespace Sys2Proof.Machine

@[simp] theorem emit_cfg (e : Event) (s : State) : (emit e s).cfg = s.cfg := rfl
@[simp] theorem emit_out (e : Event) (s : State) : (emit e s).out = s.out := rfl
@[simp] theorem emit_seq (e : Event) (s : State) : (emit e s).seq = s.seq := rfl
@[simp] theorem emit_flags (e : Event) (s : State) : (emit e s).flags = s.flags := rfl
@[simp] theorem emit_damper (e : Event) (s : State) : (emit e s).damper = s.damper := rfl
@[simp] theorem emit_hb (e : Event) (s : State) : (emit e s).hb = s.hb := rfl
@[simp] theorem emit_rxTemp (e : Event) (s : State) : (emit e s).rxTemp = s.rxTemp := rfl
@[simp] theorem emit_lines (e : Event) (s : State) : (emit e s).lines = s.lines := rfl
@[simp] theorem emit_ctl (e : Event) (s : State) : (emit e s).ctl = s.ctl := rfl
@[simp] theorem emit_inp (e : Event) (s : State) : (emit e s).inp = s.inp := rfl
@[simp] theorem emit_trace (e : Event) (s : State) : (emit e s).trace = s.trace ++ [e] := rfl

@[simp] theorem raise_cfg (c : Condition) (s : State) : (raise c s).cfg = s.cfg := rfl
@[simp] theorem raise_out (c : Condition) (s : State) : (raise c s).out = s.out := rfl
@[simp] theorem raise_seq (c : Condition) (s : State) : (raise c s).seq = s.seq := rfl
@[simp] theorem raise_flags (c : Condition) (s : State) : (raise c s).flags = s.flags := rfl
@[simp] theorem raise_damper (c : Condition) (s : State) : (raise c s).damper = s.damper := rfl
@[simp] theorem raise_hb (c : Condition) (s : State) : (raise c s).hb = s.hb := rfl
@[simp] theorem raise_rxTemp (c : Condition) (s : State) : (raise c s).rxTemp = s.rxTemp := rfl
@[simp] theorem raise_lines (c : Condition) (s : State) : (raise c s).lines = s.lines := rfl
@[simp] theorem raise_ctl (c : Condition) (s : State) : (raise c s).ctl = s.ctl := rfl
@[simp] theorem raise_inp (c : Condition) (s : State) : (raise c s).inp = s.inp := rfl
@[simp] theorem raise_trace (c : Condition) (s : State) : (raise c s).trace = s.trace ++ [c.event] := rfl

@[simp] theorem notify_cfg (s : State) : (notify s).cfg = s.cfg := rfl
@[simp] theorem notify_out (s : State) : (notify s).out = s.out := rfl
@[simp] theorem notify_seq (s : State) : (notify s).seq = s.seq := rfl
@[simp] theorem notify_flags (s : State) : (notify s).flags = s.flags := rfl
@[simp] theorem notify_damper (s : State) : (notify s).damper = s.damper := rfl
@[simp] theorem notify_hb (s : State) : (notify s).hb = s.hb := rfl
@[simp] theorem notify_rxTemp (s : State) : (notify s).rxTemp = s.rxTemp := rfl
@[simp] theorem notify_lines (s : State) : (notify s).lines = s.lines := rfl
@[simp] theorem notify_ctl (s : State) : (notify s).ctl = s.ctl := rfl
@[simp] theorem notify_inp (s : State) : (notify s).inp = s.inp := rfl
@[simp] theorem notify_trace (s : State) : (notify s).trace = s.trace ++ [.status (statusRec s)] := rfl

@[simp] theorem writeLine_cfg (l : Line) (v : Bool) (s : State) : (writeLine l v s).cfg = s.cfg := rfl
@[simp] theorem writeLine_out (l : Line) (v : Bool) (s : State) : (writeLine l v s).out = s.out := rfl
@[simp] theorem writeLine_seq (l : Line) (v : Bool) (s : State) : (writeLine l v s).seq = s.seq := rfl
@[simp] theorem writeLine_flags (l : Line) (v : Bool) (s : State) : (writeLine l v s).flags = s.flags := rfl
@[simp] theorem writeLine_damper (l : Line) (v : Bool) (s : State) : (writeLine l v s).damper = s.damper := rfl
@[simp] theorem writeLine_hb (l : Line) (v : Bool) (s : State) : (writeLine l v s).hb = s.hb := rfl
@[simp] theorem writeLine_rxTemp (l : Line) (v : Bool) (s : State) : (writeLine l v s).rxTemp = s.rxTemp := rfl
@[simp] theorem writeLine_lines (l : Line) (v : Bool) (s : State) : (writeLine l v s).lines = s.lines.set l v := rfl
@[simp] theorem writeLine_ctl (l : Line) (v : Bool) (s : State) : (writeLine l v s).ctl = s.ctl := rfl
@[simp] theorem writeLine_inp (l : Line) (v : Bool) (s : State) : (writeLine l v s).inp = s.inp := rfl
@[simp] theorem writeLine_trace (l : Line) (v : Bool) (s : State) : (writeLine l v s).trace = s.trace ++ [.line l v] := rfl

@[simp] theorem setOutbound_cfg (m t f : Byte) (s : State) : (setOutbound m t f s).cfg = s.cfg := rfl
@[simp] theorem setOutbound_out (m t f : Byte) (s : State) : (setOutbound m t f s).out = { mode := m, sp := t, fan := f } := rfl
@[simp] theorem setOutbound_seq (m t f : Byte) (s : State) : (setOutbound m t f s).seq = s.seq := rfl
@[simp] theorem setOutbound_flags (m t f : Byte) (s : State) : (setOutbound m t f s).flags = s.flags := rfl
@[simp] theorem setOutbound_damper (m t f : Byte) (s : State) : (setOutbound m t f s).damper = s.damper := rfl
@[simp] theorem setOutbound_hb (m t f : Byte) (s : State) : (setOutbound m t f s).hb = s.hb := rfl
@[simp] theorem setOutbound_rxTemp (m t f : Byte) (s : State) : (setOutbound m t f s).rxTemp = s.rxTemp := rfl
@[simp] theorem setOutbound_lines (m t f : Byte) (s : State) : (setOutbound m t f s).lines = s.lines := rfl
@[simp] theorem setOutbound_ctl (m t f : Byte) (s : State) : (setOutbound m t f s).ctl = s.ctl := rfl
@[simp] theorem setOutbound_inp (m t f : Byte) (s : State) : (setOutbound m t f s).inp = s.inp := rfl
@[simp] theorem setOutbound_trace (m t f : Byte) (s : State) : (setOutbound m t f s).trace = s.trace := rfl

@[simp] theorem setModeFlags_cfg (h c f : Bool) (s : State) : (setModeFlags h c f s).cfg = s.cfg := rfl
@[simp] theorem setModeFlags_out (h c f : Bool) (s : State) : (setModeFlags h c f s).out = s.out := rfl
@[simp] theorem setModeFlags_seq (h c f : Bool) (s : State) : (setModeFlags h c f s).seq = s.seq := rfl
@[simp] theorem setModeFlags_flags (h c f : Bool) (s : State) : (setModeFlags h c f s).flags = { s.flags with heat := h, cool := c, fanOn := f } := rfl
@[simp] theorem setModeFlags_damper (h c f : Bool) (s : State) : (setModeFlags h c f s).damper = s.damper := rfl
@[simp] theorem setModeFlags_hb (h c f : Bool) (s : State) : (setModeFlags h c f s).hb = s.hb := rfl
@[simp] theorem setModeFlags_rxTemp (h c f : Bool) (s : State) : (setModeFlags h c f s).rxTemp = s.rxTemp := rfl
@[simp] theorem setModeFlags_lines (h c f : Bool) (s : State) : (setModeFlags h c f s).lines = s.lines := rfl
@[simp] theorem setModeFlags_ctl (h c f : Bool) (s : State) : (setModeFlags h c f s).ctl = s.ctl := rfl
@[simp] theorem setModeFlags_inp (h c f : Bool) (s : State) : (setModeFlags h c f s).inp = s.inp := rfl
@[simp] theorem setModeFlags_trace (h c f : Bool) (s : State) : (setModeFlags h c f s).trace = s.trace := rfl

@[simp] theorem setFanFlags_cfg (v : FanSpeed) (s : State) : (setFanFlags v s).cfg = s.cfg := rfl
@[simp] theorem setFanFlags_out (v : FanSpeed) (s : State) : (setFanFlags v s).out = s.out := rfl
@[simp] theorem setFanFlags_seq (v : FanSpeed) (s : State) : (setFanFlags v s).seq = s.seq := rfl
@[simp] theorem setFanFlags_flags (v : FanSpeed) (s : State) : (setFanFlags v s).flags = { s.flags with fanHi := decide (v = .hi), fanMed := decide (v = .med), fanLo := decide (v = .lo) } := rfl
@[simp] theorem setFanFlags_damper (v : FanSpeed) (s : State) : (setFanFlags v s).damper = s.damper := rfl
@[simp] theorem setFanFlags_hb (v : FanSpeed) (s : State) : (setFanFlags v s).hb = s.hb := rfl
@[simp] theorem setFanFlags_rxTemp (v : FanSpeed) (s : State) : (setFanFlags v s).rxTemp = s.rxTemp := rfl
@[simp] theorem setFanFlags_lines (v : FanSpeed) (s : State) : (setFanFlags v s).lines = s.lines := rfl
@[simp] theorem setFanFlags_ctl (v : FanSpeed) (s : State) : (setFanFlags v s).ctl = s.ctl := rfl
@[simp] theorem setFanFlags_inp (v : FanSpeed) (s : State) : (setFanFlags v s).inp = s.inp := rfl
@[simp] theorem setFanFlags_trace (v : FanSpeed) (s : State) : (setFanFlags v s).trace = s.trace := rfl

@[simp] theorem armDrain_cfg (s : State) : (armDrain s).cfg = s.cfg := rfl
@[simp] theorem armDrain_out (s : State) : (armDrain s).out = s.out := rfl
@[simp] theorem armDrain_seq (s : State) : (armDrain s).seq = s.seq := rfl
@[simp] theorem armDrain_flags (s : State) : (armDrain s).flags = s.flags := rfl
@[simp] theorem armDrain_damper (s : State) : (armDrain s).damper = s.damper := rfl
@[simp] theorem armDrain_hb (s : State) : (armDrain s).hb = s.hb := rfl
@[simp] theorem armDrain_rxTemp (s : State) : (armDrain s).rxTemp = s.rxTemp := rfl
@[simp] theorem armDrain_lines (s : State) : (armDrain s).lines = s.lines := rfl
@[simp] theorem armDrain_ctl (s : State) : (armDrain s).ctl = { s.ctl with drainCnt := s.ctl.drainCnt.write s.cfg.offDrainCycles } := rfl
@[simp] theorem armDrain_inp (s : State) : (armDrain s).inp = s.inp := rfl
@[simp] theorem armDrain_trace (s : State) : (armDrain s).trace = s.trace := rfl

@[simp] theorem serFlush_cfg (s : State) : (serFlush s).cfg = s.cfg := rfl
@[simp] theorem serFlush_out (s : State) : (serFlush s).out = s.out := rfl
@[simp] theorem serFlush_seq (s : State) : (serFlush s).seq = s.seq := rfl
@[simp] theorem serFlush_flags (s : State) : (serFlush s).flags = s.flags := rfl
@[simp] theorem serFlush_damper (s : State) : (serFlush s).damper = s.damper := rfl
@[simp] theorem serFlush_hb (s : State) : (serFlush s).hb = s.hb := rfl
@[simp] theorem serFlush_rxTemp (s : State) : (serFlush s).rxTemp = s.rxTemp := rfl
@[simp] theorem serFlush_lines (s : State) : (serFlush s).lines = s.lines := rfl
@[simp] theorem serFlush_ctl (s : State) : (serFlush s).ctl = s.ctl := rfl
@[simp] theorem serFlush_inp (s : State) : (serFlush s).inp = { s.inp with rxWindow := s.inp.rxLater.headD [], rxLater := s.inp.rxLater.tail } := rfl
@[simp] theorem serFlush_trace (s : State) : (serFlush s).trace = s.trace ++ [.serFlush] := rfl

/-! The lines after one write, and after a release. -/

@[simp] theorem LineState.set_remoteEn (v : Bool) (r : LineState) : r.set .remoteEn v = { r with remoteEn := v } := rfl
@[simp] theorem LineState.set_damperEn (v : Bool) (r : LineState) : r.set .damperEn v = { r with damperEn := v } := rfl
@[simp] theorem LineState.set_damperStop (v : Bool) (r : LineState) : r.set .damperStop v = { r with damperStop := v } := rfl
@[simp] theorem LineState.set_damperZone (v : Bool) (r : LineState) : r.set .damperZone v = { r with damperZone := v } := rfl

@[simp] theorem releaseLines_cfg (s : State) :
    (releaseLines s).cfg = s.cfg := by
  simp [releaseLines]
@[simp] theorem releaseLines_out (s : State) :
    (releaseLines s).out = s.out := by
  simp [releaseLines]
@[simp] theorem releaseLines_seq (s : State) :
    (releaseLines s).seq = s.seq := by
  simp [releaseLines]
@[simp] theorem releaseLines_flags (s : State) :
    (releaseLines s).flags = s.flags := by
  simp [releaseLines]
@[simp] theorem releaseLines_damper (s : State) :
    (releaseLines s).damper = { s.damper with adjusting := false } := by
  simp [releaseLines]
@[simp] theorem releaseLines_hb (s : State) :
    (releaseLines s).hb = s.hb := by
  simp [releaseLines]
@[simp] theorem releaseLines_rxTemp (s : State) :
    (releaseLines s).rxTemp = s.rxTemp := by
  simp [releaseLines]
@[simp] theorem releaseLines_lines (s : State) :
    (releaseLines s).lines = { remoteEn := false, damperEn := false, damperStop := false, damperZone := false } := by
  simp [releaseLines]
@[simp] theorem releaseLines_ctl (s : State) :
    (releaseLines s).ctl = s.ctl := by
  simp [releaseLines]
@[simp] theorem releaseLines_inp (s : State) :
    (releaseLines s).inp = s.inp := by
  simp [releaseLines]
@[simp] theorem releaseLines_trace (s : State) :
    (releaseLines s).trace = s.trace ++ [.line .remoteEn false, .line .damperEn false, .line .damperStop false, .line .damperZone false] := by
  simp [releaseLines]

/-! The observed flags: reading back, and what a write of one leaves. -/

@[simp] theorem ModeState.getObs_compressor (m : ModeState) : m.getObs .compressor = m.compressor := rfl
@[simp] theorem ModeState.putObs_compressor (v : Bool) (m : ModeState) : m.putObs .compressor v = { m with compressor := v } := rfl
@[simp] theorem ModeState.getObs_heating (m : ModeState) : m.getObs .heating = m.heating := rfl
@[simp] theorem ModeState.putObs_heating (v : Bool) (m : ModeState) : m.putObs .heating v = { m with heating := v } := rfl
@[simp] theorem ModeState.getObs_filter (m : ModeState) : m.getObs .filter = m.filter := rfl
@[simp] theorem ModeState.putObs_filter (v : Bool) (m : ModeState) : m.putObs .filter v = { m with filter := v } := rfl
@[simp] theorem ModeState.getObs_malfunction (m : ModeState) : m.getObs .malfunction = m.malfunction := rfl
@[simp] theorem ModeState.putObs_malfunction (v : Bool) (m : ModeState) : m.putObs .malfunction v = { m with malfunction := v } := rfl

end Sys2Proof.Machine
end

