-- ==== Sys2Proof/Laws/Widths.lean ====
section
/-! SUPPORT. Registers of a configured width: what a write leaves, and that the widths of R105 and R109 hold every legal
value. -/

namespace Sys2Proof

@[simp] theorem Reg.width_ofNat (w n : Nat) : (Reg.ofNat w n).width = w := rfl
@[simp] theorem Reg.toNat_ofNat (w n : Nat) : (Reg.ofNat w n).toNat = n % 2 ^ w := by simp [Reg.ofNat, Reg.toNat]
@[simp] theorem Reg.width_write (r : Reg) (n : Nat) : (r.write n).width = r.width := rfl
@[simp] theorem Reg.toNat_write (r : Reg) (n : Nat) : (r.write n).toNat = n % 2 ^ r.width := by simp [Reg.write]
@[simp] theorem Reg.write_write (r : Reg) (m n : Nat) : (r.write m).write n = r.write n := rfl
@[simp] theorem Reg.write_ofNat (w m n : Nat) : (Reg.ofNat w m).write n = Reg.ofNat w n := rfl
@[simp] theorem Reg.write_toNat (r : Reg) : r.write r.toNat = r := by
  simp [Reg.write, Reg.ofNat, Reg.toNat]

theorem Reg.toNat_lt (r : Reg) : r.toNat < 2 ^ r.width := r.bits.isLt

/-- A write of a value that fits reads back. -/
theorem Reg.toNat_write_of_lt {r : Reg} {n : Nat} (h : n < 2 ^ r.width) : (r.write n).toNat = n := by
  rw [Reg.toNat_write, Nat.mod_eq_of_lt h]

/-- Counting down never needs a cut. -/
theorem Reg.toNat_write_pred (r : Reg) : (r.write (r.toNat - 1)).toNat = r.toNat - 1 :=
  Reg.toNat_write_of_lt (lt_of_le_of_lt (Nat.sub_le _ _) r.toNat_lt)

/-- `bits(n)` bits hold every value up to `n` (R105, R109). -/
theorem lt_two_pow_bitsFor {m n : Nat} (h : m ≤ n) : m < 2 ^ bitsFor n :=
  lt_of_le_of_lt h (by simpa [bitsFor] using Nat.lt_log2_self)

/-- `HB_CNT` holds every count up to `HB_LOST + 1`. -/
theorem Cfg.lt_hbCntWidth (c : Cfg) {n : Nat} (h : n ≤ c.hbLost + 1) : n < 2 ^ c.hbCntWidth := lt_two_pow_bitsFor h

/-- `DRAIN_CNT` holds every count up to `OFF_DRAIN_CYCLES`. -/
theorem Cfg.lt_drainCntWidth (c : Cfg) {n : Nat} (h : n ≤ c.offDrainCycles) : n < 2 ^ c.drainCntWidth :=
  lt_two_pow_bitsFor h

end Sys2Proof
end

