-- ==== Sys2Proof/Laws/Ops.lean ====
section
/-! SUPPORT. For each shared operation, once, everything it can do. -/

namespace Sys2Proof.Machine

/-! ### Outcomes -/

@[simp] theorem andThen_next (s : State) (f : State → Host.Outcome State Fault Refusal) :
    andThen (.next s) f = f s := rfl

@[simp] theorem andThen_refused (r : Refusal) (f : State → Host.Outcome State Fault Refusal) :
    andThen (.refused r) f = .refused r := rfl

theorem andThen_assoc (o : Host.Outcome State Fault Refusal) (f g : State → Host.Outcome State Fault Refusal) :
    andThen (andThen o f) g = andThen o (fun s => andThen (f s) g) := by
  cases o <;> rfl

/-- If a sequence of outcomes answers a next state, so does its first part. -/
theorem andThen_eq_next {o : Host.Outcome State Fault Refusal} {f : State → Host.Outcome State Fault Refusal} {t : State} :
    andThen o f = .next t ↔ ∃ u, o = .next u ∧ f u = .next t := by
  cases o <;> simp [andThen]

/-! ### Observed flags -/

@[simp] theorem ModeState.putObs_getObs (f : ObsFlag) (m : ModeState) : m.putObs f (m.getObs f) = m := by
  cases f <;> rfl

/-- `SetObs` writes the flag, and notifies exactly on an edge (R617). -/
theorem setObs_eq (f : ObsFlag) (v : Bool) (s : State) :
    setObs f v s = { s with
      flags := s.flags.putObs f v
      trace := s.trace ++
        (if s.flags.getObs f = v then [] else [.status (statusRec { s with flags := s.flags.putObs f v })]) } := by
  unfold setObs
  split
  · next h => subst h; simp
  · simp [notify, emit, statusRec]

/-! ### Commands' shared operations -/

/-- `EnableRemote` (R615), whole. -/
theorem enableRemote_eq (s : State) :
    enableRemote s = { s with
      flags := { s.flags with remoteOperation := true }
      lines := if s.flags.remoteOperation then s.lines else { s.lines with remoteEn := true, damperEn := true }
      ctl := { s.ctl with drainCnt := if s.ctl.term = .none then s.ctl.drainCnt.write 0 else s.ctl.drainCnt }
      trace := s.trace ++ (if s.flags.remoteOperation then []
        else [.line .remoteEn true, .line .damperEn true, .wait .remoteSettle]) } := by
  have h0 : s.ctl.drainCnt.toNat = 0 → s.ctl.drainCnt.write 0 = s.ctl.drainCnt := fun h => by
    conv_rhs => rw [← Reg.write_toNat s.ctl.drainCnt, h]
  rcases s with ⟨cfg, out, seq, flags, damper, hb, rxTemp, lines, ctl, inp, trace⟩
  rcases flags with ⟨r, _, _, _, _, _, _, _, _, _, _⟩
  rcases ctl with ⟨_, _, d, term, _, _, _⟩
  rcases Nat.eq_zero_or_pos d.toNat with hd | hd
  · have := h0 hd
    cases r <;> cases term <;> simp_all [enableRemote, writeLine, emit]
  · cases r <;> cases term <;> simp_all [enableRemote, writeLine, emit]

/-- `OFF` as a transition (R600), whole. -/
theorem offTransition_eq (s : State) :
    offTransition s = { s with
      out := { s.out with mode := s.cfg.modeOff }
      flags := { s.flags with heat := false, cool := false, fanOn := false, fanHi := false, fanMed := false, fanLo := false }
      ctl := { s.ctl with drainCnt :=
        if s.flags.remoteOperation = true ∧ s.ctl.drainCnt.toNat = 0
        then s.ctl.drainCnt.write s.cfg.offDrainCycles else s.ctl.drainCnt }
      trace := s.trace ++ [.status (statusRec { s with flags :=
        { s.flags with heat := false, cool := false, fanOn := false, fanHi := false, fanMed := false, fanLo := false } })] } := by
  unfold offTransition
  by_cases h : s.flags.remoteOperation = true ∧ s.ctl.drainCnt.toNat = 0
  · simp [h, armDrain, notify, emit, statusRec, setFanFlags, setModeFlags]
  · simp [h, notify, emit, statusRec, setFanFlags, setModeFlags]

/-- A mode command's common end, whole. -/
theorem applyMode_eq (m t f : Byte) (h c fn : Bool) (v : FanSpeed) (s : State) :
    applyMode m t f h c fn v s =
      let fl := { s.flags with heat := h, cool := c, fanOn := fn, fanHi := decide (v = .hi), fanMed := decide (v = .med),
                               fanLo := decide (v = .lo) }
      { s with out := { mode := m, sp := t, fan := f }, flags := fl
               trace := s.trace ++ [.status (statusRec { s with flags := fl })] } := rfl

/-! ### The sensor and the damper -/

/-- A draw touches only the sensor's inputs. -/
theorem sample_state (s : State) :
    (sample s).2 = { s with inp := { s.inp with samples := (sample s).2.inp.samples
                                                sampleCtr := (sample s).2.inp.sampleCtr } } := by
  unfold sample; split <;> rfl

theorem sample_fst_lt (s : State) : (sample s).1.1 < 2 ^ s.cfg.xW ∧ (sample s).1.2 < 2 ^ s.cfg.yW := by
  unfold sample; split <;> exact ⟨Nat.mod_lt _ (by positivity), Nat.mod_lt _ (by positivity)⟩

theorem combine_lt (c : Cfg) (x y : Nat) : c.combine x y < 2 ^ c.rawW := Nat.mod_lt _ (by positivity)

/-- One sensor read (R501), whole. -/
theorem readRaw_eq (s : State) :
    readRaw s = (s.cfg.combine (sample s).1.1 (sample s).1.2,
      { s with inp := (sample s).2.inp, trace := s.trace ++ [.sensorSample (sample s).1.1 (sample s).1.2] }) := by
  show (s.cfg.combine (sample s).1.1 (sample s).1.2, emit (.sensorSample (sample s).1.1 (sample s).1.2) (sample s).2) = _
  rw [sample_state s]; rfl

theorem readRaw_fst_lt (s : State) : (readRaw s).1 < 2 ^ s.cfg.rawW := by
  rw [readRaw_eq]; exact combine_lt _ _ _

/-- `ApplyZone` writes only the two damper position lines, `ADJUSTING` and the trace (R506). -/
theorem applyZone_frame (z : Zone) (s : State) :
    ∃ stop zone adj evs, applyZone z s = { s with
      lines := { s.lines with damperStop := stop, damperZone := zone }
      damper := { s.damper with adjusting := adj }
      trace := s.trace ++ evs } := by
  cases z
  · exact ⟨false, s.cfg.zoneDayLevel, true, [.line .damperZone s.cfg.zoneDayLevel, .line .damperStop false],
      by simp [applyZone, writeLine, emit]⟩
  · exact ⟨false, !s.cfg.zoneDayLevel, true, [.line .damperZone (!s.cfg.zoneDayLevel), .line .damperStop false],
      by simp [applyZone, writeLine, emit]⟩
  · exact ⟨true, s.lines.damperZone, false, [.line .damperStop true], by simp [applyZone, writeLine, emit]⟩

/-- Under a legal configuration the linearizer's result is a legal value of `REPORTED` (R504). -/
theorem linearize_legal (c : Cfg) (r day night : Nat) (hc : c.quantLegal = true) (h : day < night) :
    linearize c r day night % c.quantStep = 0 ∧ linearize c r day night ≤ 100 := by
  simp only [Cfg.quantLegal, Bool.and_eq_true, decide_eq_true_eq] at hc
  obtain ⟨⟨hs, hd⟩, hh⟩ := hc
  simp only [linearize]
  split
  · exact ⟨hd, le_refl _⟩
  · split
    · simp
    · next h1 h2 =>
      refine ⟨Nat.mul_mod_right _ _, ?_⟩
      obtain ⟨k, hk⟩ := Nat.dvd_of_mod_eq_zero hd
      have hD : (0 : Int) < (night : Int) - day := by omega
      have hS : (0 : Int) < c.quantStep := by exact_mod_cast hs
      have hq : (200 * ((night : Int) - r) + c.quantStep * (night - day)) / (2 * c.quantStep * (night - day)) < k + 1 := by
        apply Int.ediv_lt_of_lt_mul (by positivity)
        have hH : (c.quantHigh : Int) * ((night : Int) - day) ≤ 100 * (night - day) :=
          mul_le_mul_of_nonneg_right (by exact_mod_cast hh) hD.le
        have hK : (100 : Int) = c.quantStep * k := by exact_mod_cast hk
        have hP : (0 : Int) < c.quantStep * ((night : Int) - day) := by positivity
        have hE : ((k : Int) + 1) * (2 * c.quantStep * (night - day)) =
            2 * ((c.quantStep * k) * (night - day)) + 2 * (c.quantStep * (night - day)) := by ring
        rw [hE, ← hK]; linarith
      calc c.quantStep * _ ≤ c.quantStep * k := Nat.mul_le_mul_left _ (by omega)
        _ = 100 := hk.symm

/-- One adjustment step (R507): it writes only `RAW`, `REPORTED`, `ADJUSTING`, the two damper position lines, the
sensor's inputs and the trace; `RAW` keeps its width, and under a legal configuration the percentage is legal. -/
theorem damperAdjust_frame (s : State) :
    ∃ raw rep stop zone adj inp evs, damperAdjust s = { s with
      damper := { s.damper with raw := s.damper.raw.write raw, reported := rep, adjusting := adj }
      lines := { s.lines with damperStop := stop, damperZone := zone }
      inp := inp
      trace := s.trace ++ evs } ∧ raw < 2 ^ s.cfg.rawW ∧
      (rep = s.damper.reported ∨
        (s.cfg.quantLegal = true → rep.toNat % s.cfg.quantStep = 0 ∧ rep.toNat ≤ 100)) ∧
      inp = (sample s).2.inp := by
  have hr := combine_lt s.cfg (sample s).1.1 (sample s).1.2
  simp only [damperAdjust, readRaw_eq]
  split
  · refine ⟨s.cfg.combine (sample s).1.1 (sample s).1.2, s.damper.reported, true, s.lines.damperZone, false, _,
      [.sensorSample (sample s).1.1 (sample s).1.2, .diag 7 (.references s.damper.dayRef.toNat s.damper.nightRef.toNat),
        .line .damperStop true], ?_, hr, .inl rfl, rfl⟩
    simp [applyZone, writeLine, raise, emit, Condition.event, Condition.code, Condition.info]
  · next hlt =>
    generalize hl : linearize s.cfg (s.cfg.combine (sample s).1.1 (sample s).1.2) s.damper.dayRef.toNat
      s.damper.nightRef.toNat = rep
    obtain ⟨a, b, c, d, h⟩ := applyZone_frame (drive s.damper.req.toNat (BitVec.ofNat 7 rep).toNat)
      { s with damper := { s.damper with
                 raw := s.damper.raw.write (s.cfg.combine (sample s).1.1 (sample s).1.2)
                 reported := BitVec.ofNat 7 rep }
               inp := (sample s).2.inp
               trace := s.trace ++ [.sensorSample (sample s).1.1 (sample s).1.2] }
    refine ⟨s.cfg.combine (sample s).1.1 (sample s).1.2, BitVec.ofNat 7 rep, a, b, c, _,
      .sensorSample (sample s).1.1 (sample s).1.2 :: d, ?_, hr, .inr (fun hc => ?_), rfl⟩
    · rw [h]; simp
    · obtain ⟨h1, h2⟩ := linearize_legal s.cfg (s.cfg.combine (sample s).1.1 (sample s).1.2) _ _ hc
        (by simpa using hlt)
      rw [hl] at h1 h2
      have h7 : (BitVec.ofNat 7 rep).toNat = rep := by
        rw [BitVec.toNat_ofNat]; exact Nat.mod_eq_of_lt (lt_of_le_of_lt h2 (by norm_num))
      rw [h7]
      exact ⟨h1, h2⟩

/-- A draw depends only on the configuration and the inputs. -/
theorem sample_congr {s u : State} (hc : u.cfg = s.cfg) (hi : u.inp = s.inp) :
    (sample u).1 = (sample s).1 ∧ (sample u).2.inp = (sample s).2.inp := by
  unfold sample
  rw [hi, hc]
  split <;> simp

/-- The first half of the calibration (R509), whole. -/
theorem calibrateNight_eq (s : State) :
    calibrateNight s = { s with
      damper := { s.damper with nightRef := s.damper.nightRef.write (s.cfg.combine (sample s).1.1 (sample s).1.2) }
      lines := { s.lines with damperEn := true, damperZone := !s.cfg.zoneDayLevel, damperStop := false }
      inp := (sample s).2.inp
      trace := s.trace ++ [.sensorSelftest .enter, .sensorSelftest .exit, .line .damperEn true,
        .line .damperZone (!s.cfg.zoneDayLevel), .line .damperStop false, .wait .calTravel,
        .sensorSample (sample s).1.1 (sample s).1.2] } := by
  obtain ⟨c1, c2⟩ := sample_congr (s := s) (u := emit (.wait .calTravel) (writeLine .damperStop false
    (writeLine .damperZone (!s.cfg.zoneDayLevel) (writeLine .damperEn true
      (emit (.sensorSelftest .exit) (emit (.sensorSelftest .enter) s))))))
    (by simp only [emit, writeLine]) (by simp only [emit, writeLine])
  simp only [calibrateNight, readRaw_eq, c1, c2]
  simp [emit, writeLine]

/-- The second half of the calibration (R509), whole. -/
theorem calibrateDay_eq (s : State) :
    calibrateDay s =
      let reading := s.cfg.combine (sample s).1.1 (sample s).1.2
      let day := s.damper.dayRef.write reading
      { s with
        damper := { s.damper with dayRef := day, raw := s.damper.raw.write reading, reported := 100, adjusting := false }
        lines := { s.lines with damperEn := false, damperZone := s.cfg.zoneDayLevel, damperStop := true }
        inp := (sample s).2.inp
        trace := s.trace ++ [.line .damperZone s.cfg.zoneDayLevel, .wait .calTravel,
          .sensorSample (sample s).1.1 (sample s).1.2, .line .damperStop true, .line .damperEn false] ++
          (if s.damper.nightRef.toNat ≤ day.toNat then [.diag 8 (.references day.toNat s.damper.nightRef.toNat)]
           else []) } := by
  obtain ⟨c1, c2⟩ := sample_congr (s := s) (u := emit (.wait .calTravel) (writeLine .damperZone s.cfg.zoneDayLevel s))
    (by simp only [emit, writeLine]) (by simp only [emit, writeLine])
  simp only [calibrateDay, readRaw_eq, c1, c2]
  split <;> rename_i h
  · have h' : s.damper.nightRef.toNat ≤ (s.damper.dayRef.write (s.cfg.combine (sample s).1.1 (sample s).1.2)).toNat := h
    rw [if_pos h']
    simp [emit, writeLine, raise, Condition.event, Condition.code, Condition.info]
  · have h' : ¬ s.damper.nightRef.toNat ≤ (s.damper.dayRef.write (s.cfg.combine (sample s).1.1 (sample s).1.2)).toNat := h
    rw [if_neg h']
    simp [emit, writeLine]

end Sys2Proof.Machine
end

