-- ==== Sys2Proof/Laws/ControlLoop.lean ====
section
/-! SUPPORT. What a command, the dispatch, the exchange and the other parts of a cycle can do. -/

namespace Sys2Proof.Machine

/-! ### Widths -/

theorem SameWidths.refl (s : State) : SameWidths s s := by constructor <;> rfl

theorem SameWidths.trans {s t u : State} (h : SameWidths s t) (k : SameWidths t u) : SameWidths s u :=
  ⟨k.raw.trans h.raw, k.dayRef.trans h.dayRef, k.nightRef.trans h.nightRef, k.hbCnt.trans h.hbCnt,
    k.drainCnt.trans h.drainCnt⟩

/-- Under the widths of the tables, `HB_CNT` counts to `HB_LOST + 1` without a cut (R105). -/
theorem Sized.hbCnt_write {s : State} (h : Sized s) {n : Nat} (hn : n ≤ s.cfg.hbLost + 1) :
    (s.hb.cnt.write n).toNat = n :=
  Reg.toNat_write_of_lt (by rw [h.hbCnt]; exact s.cfg.lt_hbCntWidth hn)

/-- Under the widths of the tables, `DRAIN_CNT` holds every legal value (R109). -/
theorem Sized.drainCnt_write {s : State} (h : Sized s) {n : Nat} (hn : n ≤ s.cfg.offDrainCycles) :
    (s.ctl.drainCnt.write n).toNat = n :=
  Reg.toNat_write_of_lt (by rw [h.drainCnt]; exact s.cfg.lt_drainCntWidth hn)

/-! ### Commands -/

theorem CommandFrame.refl (s : State) : CommandFrame s s := by constructor <;> rfl

theorem CommandFrame.trans {s t u : State} (h : CommandFrame s t) (k : CommandFrame t u) : CommandFrame s u := by
  constructor
  · exact k.cfg.trans h.cfg
  · exact k.inp.trans h.inp
  · exact k.seq.trans h.seq
  · exact k.rxTemp.trans h.rxTemp
  · exact k.heating.trans h.heating
  · exact k.compressor.trans h.compressor
  · exact k.malfunction.trans h.malfunction
  · exact k.filter.trans h.filter
  · exact k.reported.trans h.reported
  · exact k.raw.trans h.raw
  · exact k.dayRef.trans h.dayRef
  · exact k.nightRef.trans h.nightRef
  · exact k.adjusting.trans h.adjusting
  · exact k.damperStop.trans h.damperStop
  · exact k.damperZone.trans h.damperZone
  · exact k.phase.trans h.phase
  · exact k.remotePrev.trans h.remotePrev
  · exact k.term.trans h.term
  · exact k.halted.trans h.halted
  · exact k.cmdq.trans h.cmdq
  · exact k.resetPending.trans h.resetPending

/-- A raised condition stays inside the frame of a command. -/
theorem raise_frame (c : Condition) (s : State) : CommandFrame s (raise c s) := by constructor <;> rfl

/-- `Dispatch` completes, inside the frame of a command, and the trace only grows (R616). -/
theorem dispatch_frame (cw : Word) (s : State) :
    ∃ t, dispatch cw s = .next t ∧ CommandFrame s t ∧ ∃ evs, Emits s t evs := by
  have hexec : ∀ i, ∃ t, exec i s = .next t ∧ CommandFrame s t ∧ ∃ evs, Emits s t evs := by
    intro i
    cases i
    case off =>
      exact ⟨_, rfl, by rw [offTransition_eq]; constructor <;> rfl, _, by rw [offTransition_eq]; exact rfl⟩
    case ventilate =>
      exact ⟨_, rfl, by rw [enableRemote_eq, applyMode_eq]; constructor <;> (try rfl) <;> (dsimp; split <;> rfl), _,
        by rw [enableRemote_eq, applyMode_eq]; exact List.append_assoc _ _ _⟩
    case thermoHeat =>
      exact ⟨_, rfl, by rw [enableRemote_eq, applyMode_eq]; constructor <;> (try rfl) <;> (dsimp; split <;> rfl), _,
        by rw [enableRemote_eq, applyMode_eq]; exact List.append_assoc _ _ _⟩
    case thermoCool =>
      exact ⟨_, rfl, by rw [enableRemote_eq, applyMode_eq]; constructor <;> (try rfl) <;> (dsimp; split <;> rfl), _,
        by rw [enableRemote_eq, applyMode_eq]; exact List.append_assoc _ _ _⟩
    case thermoAuto => exact ⟨s, rfl, by constructor <;> rfl, [], by simp [Emits]⟩
    case heatMode => exact ⟨_, rfl, by constructor <;> rfl, _, rfl⟩
    case coolMode => exact ⟨_, rfl, by constructor <;> rfl, _, rfl⟩
    case fanMode => exact ⟨_, rfl, by constructor <;> rfl, _, rfl⟩
    case fanHi => exact ⟨_, rfl, by constructor <;> rfl, _, rfl⟩
    case fanMed => exact ⟨_, rfl, by constructor <;> rfl, _, rfl⟩
    case fanLo => exact ⟨_, rfl, by constructor <;> rfl, _, rfl⟩
    case damperPercent n =>
      cases h : legalPercent n
      · exact ⟨raise (.badArgument n) s, by simp [exec, execDamperPercent, h], by constructor <;> rfl, _, rfl⟩
      · exact ⟨{ s with damper.req := n }, by simp [exec, execDamperPercent, h], by constructor <;> rfl, [], by simp [Emits]⟩
    case updateStatus => exact ⟨_, rfl, by constructor <;> rfl, _, rfl⟩
    case heartbeatAck => exact ⟨_, rfl, by constructor <;> rfl, [], by simp [watchdogAck, Emits]⟩
  unfold dispatch
  split
  · split
    · exact hexec _
    · exact ⟨_, rfl, raise_frame _ _, _, rfl⟩
  · exact ⟨_, rfl, raise_frame _ _, _, rfl⟩

/-- The loop over words completes: each word is dequeued, and else only the frame of a command moves (R802). -/
theorem drainWords_frame (ws : List Word) (s : State) :
    ∃ t, drainWords ws s = .next t ∧ CommandFrame { s with ctl.cmdq := s.ctl.cmdq.drop ws.length } t ∧
      ∃ evs, Emits s t evs := by
  induction ws generalizing s with
  | nil => exact ⟨s, rfl, by constructor <;> simp, [], by simp [Emits]⟩
  | cons cw ws ih =>
    obtain ⟨t, ht, hf, e1, he1⟩ := dispatch_frame cw { s with ctl.cmdq := s.ctl.cmdq.tail }
    obtain ⟨u, hu, hg, e2, he2⟩ := ih t
    refine ⟨u, by rw [drainWords, ht]; exact hu, ?_, e1 ++ e2, by simp only [Emits] at *; rw [he2, he1]; simp⟩
    have h1 : CommandFrame { s with ctl.cmdq := s.ctl.cmdq.drop (ws.length + 1) }
        { t with ctl.cmdq := t.ctl.cmdq.drop ws.length } := by
      constructor
      · exact hf.cfg
      · exact hf.inp
      · exact hf.seq
      · exact hf.rxTemp
      · exact hf.heating
      · exact hf.compressor
      · exact hf.malfunction
      · exact hf.filter
      · exact hf.reported
      · exact hf.raw
      · exact hf.dayRef
      · exact hf.nightRef
      · exact hf.adjusting
      · exact hf.damperStop
      · exact hf.damperZone
      · exact hf.phase
      · exact hf.remotePrev
      · exact hf.term
      · exact hf.halted
      · have := hf.cmdq
        simp only at this ⊢
        rw [this]; simp [List.drop_tail, Nat.add_comm]
      · exact hf.resetPending
    exact h1.trans hg

/-! ### The receive oracle -/

/-- Reading a body consumes an initial part of the window, and yields at most the bytes asked for. -/
theorem readBody_spec (n : Nat) (w : List RxDraw) :
    (∃ used, w = used ++ (readBody n w).2.2) ∧ (readBody n w).2.1.length ≤ n ∧
      ((readBody n w).1 = true ↔ (readBody n w).2.1.length = n) := by
  induction n generalizing w with
  | zero => simp [readBody]
  | succ n ih =>
    rcases w with _ | ⟨d, w⟩
    · simp [readBody, rxByte]
    · cases d with
      | timeout => exact ⟨⟨[.timeout], by simp [readBody, rxByte]⟩, by simp [readBody, rxByte], by simp [readBody, rxByte]⟩
      | byte b =>
        obtain ⟨⟨used, h1⟩, h2, h3⟩ := ih w
        refine ⟨⟨.byte b :: used, ?_⟩, ?_, ?_⟩
        · simp [readBody, rxByte]; exact h1
        · simp [readBody, rxByte]; exact h2
        · simp [readBody, rxByte]; exact h3

/-- The whole of `ReceiveFrame` leaves every register as it is (R407). -/
theorem receiveFrame_eq (s : State) :
    receiveFrame s = ((scanFrame s.cfg s.cfg.p2Len none s.inp.rxWindow).1,
      { s with inp.rxWindow := (scanFrame s.cfg s.cfg.p2Len none s.inp.rxWindow).2 }) := rfl

/-! ### The exchange -/

theorem transmitPacket1_eq (s : State) :
    transmitPacket1 s = { s with
      inp := { s.inp with rxWindow := s.inp.rxLater.tail.headD [], rxLater := s.inp.rxLater.tail.tail }
      trace := s.trace ++ packet1Events s } := by
  simp [transmitPacket1, serFlush, emit, packet1Events]

/-- One field check touches only the trace (R406). -/
theorem warnUnless_frame (f : MismatchField) (got expected : Byte) (s : State) :
    ∃ evs, warnUnless f got expected s = { s with trace := s.trace ++ evs } := by
  unfold warnUnless
  split
  · exact ⟨[], by simp⟩
  · exact ⟨_, rfl⟩

/-- `Diagnose` touches only the trace (R407). -/
theorem diagnose_frame (v : Packet2) (sent : Sent) (s : State) :
    ∃ evs, diagnose v sent s = { s with trace := s.trace ++ evs } := by
  have tr : ∀ {s t u : State}, (∃ e, t = { s with trace := s.trace ++ e }) → (∃ e, u = { t with trace := t.trace ++ e }) →
      ∃ e, u = { s with trace := s.trace ++ e } := by
    rintro s t u ⟨a, rfl⟩ ⟨b, rfl⟩
    exact ⟨a ++ b, by simp⟩
  exact tr (tr (tr (warnUnless_frame _ _ _ _) (warnUnless_frame _ _ _ _)) (warnUnless_frame _ _ _ _))
    (warnUnless_frame _ _ _ _)

/-- What the success arm of `RxOutcome` can touch (R804): `RX_TEMP`, the four observed flags and the trace. -/
theorem acceptPacket2_frame (v : Packet2) (sent : Sent) (s : State) :
    ∃ m evs, acceptPacket2 v sent s = { s with
      rxTemp := v.temp
      flags := { s.flags with compressor := s.cfg.isCompressorOn v.compressor, heating := s.cfg.isWarmup v.alerts
                              filter := s.cfg.isFilter v.alerts, malfunction := m }
      trace := s.trace ++ evs } ∧ (s.hb.missed = true → m = s.flags.malfunction) := by
  obtain ⟨a, ha⟩ := diagnose_frame v sent s
  simp only [acceptPacket2, ha, observe, setObs_eq]
  split
  · next h => exact ⟨false, _, by simp only [List.append_assoc]; rfl, fun hm => absurd (hm.symm.trans h.2) (by simp)⟩
  · exact ⟨s.flags.malfunction, _, by simp only [List.append_assoc]; rfl, fun _ => rfl⟩

/-- What the handling of a reception can touch (R804), and that it never clears `malfunction` while `MISSED` is set. -/
theorem rxOutcome_frame (f : Reception) (sent : Sent) (s : State) :
    ∃ ok rt h c m fi evs, rxOutcome f sent s = (ok, { s with
      rxTemp := rt
      flags := { s.flags with heating := h, compressor := c, malfunction := m, filter := fi }
      trace := s.trace ++ evs }) ∧ (s.hb.missed = true → s.flags.malfunction = true → m = true) := by
  have hfail : ∀ e : Event, ∃ rt h c m fi evs, setObs .malfunction true (emit e s) = { s with
      rxTemp := rt
      flags := { s.flags with heating := h, compressor := c, malfunction := m, filter := fi }
      trace := s.trace ++ evs } ∧ (s.hb.missed = true → s.flags.malfunction = true → m = true) := fun e =>
    ⟨s.rxTemp, s.flags.heating, s.flags.compressor, true, s.flags.filter, _,
      by rw [setObs_eq]; simp only [emit, List.append_assoc]; rfl, fun _ _ => rfl⟩
  cases f with
  | frameNotFound => obtain ⟨rt, h, c, m, fi, evs, he, hm⟩ := hfail Condition.frameNotFound.event
                     exact ⟨false, rt, h, c, m, fi, evs, congrArg _ he, hm⟩
  | short b => obtain ⟨rt, h, c, m, fi, evs, he, hm⟩ := hfail (Condition.checksumShort b.length).event
               exact ⟨false, rt, h, c, m, fi, evs, congrArg _ he, hm⟩
  | frame b =>
    simp only [rxOutcome]
    split
    · obtain ⟨rt, h, c, m, fi, evs, he, hm⟩ := hfail (Condition.checksumMismatch (byteAt b s.cfg.p2CsumSpan)).event
      exact ⟨false, rt, h, c, m, fi, evs, congrArg _ he, hm⟩
    · next v _ =>
      obtain ⟨m, evs, he, hm⟩ := acceptPacket2_frame v sent s
      exact ⟨true, _, _, _, m, _, evs, congrArg _ he, fun h1 h2 => (hm h1).trans h2⟩

/-- What an exchange can touch (R803 to R805): the serial inputs, `RX_TEMP`, the four observed flags, the trace, and `SEQ`,
by one `SeqNext` with the Packet3 of the number it had in the trace; `malfunction` is never cleared while `MISSED` is
set. -/
theorem exchange_frame (s : State) :
    ∃ w rt h c m fi q evs, exchange s = { s with
        inp := { s.inp with rxWindow := w, rxLater := s.inp.rxLater.tail.tail }
        rxTemp := rt
        seq := q
        flags := { s.flags with heating := h, compressor := c, malfunction := m, filter := fi }
        trace := s.trace ++ evs } ∧
      (s.hb.missed = true → s.flags.malfunction = true → m = true) ∧
      (q = s.seq ∨ q = seqNext s.cfg s.seq ∧
        ∃ pre post, evs = pre ++ [.serWrite (encode3 s.cfg s.seq s.out.mode s.out.sp s.out.fan)] ++ post) := by
  simp only [exchange, transmitPacket1_eq, receiveFrame_eq]
  generalize scanFrame s.cfg s.cfg.p2Len none (s.inp.rxLater.tail.headD []) = r
  obtain ⟨ok, rt, h, c, m, fi, evs, he, hm⟩ := rxOutcome_frame r.1
    { mode := s.out.mode, sp := s.out.sp, fan := s.out.fan }
    { s with inp := { s.inp with rxWindow := r.2, rxLater := s.inp.rxLater.tail.tail }
             trace := s.trace ++ packet1Events s }
  simp only [he]
  cases ok
  · exact ⟨r.2, rt, h, c, m, fi, s.seq, packet1Events s ++ (evs ++ [.wait .finalGap]), by simp [emit], hm, .inl rfl⟩
  · exact ⟨r.2, rt, h, c, m, fi, seqNext s.cfg s.seq, packet1Events s ++ evs ++
      [.serWrite (encode3 s.cfg s.seq s.out.mode s.out.sp s.out.fan)] ++ [.wait .finalGap],
      by simp [emit, sendPacket3], hm, .inr ⟨rfl, _, _, rfl⟩⟩

/-! ### Runs -/

/-- `k + 1` steps from a state whose step answers `t` are `k` steps from `t`. -/
theorem run_succ_of_step {k : Nat} {s t : State} (h : step s = .next t) : run (k + 1) s = run k t := by
  simp only [run, h, andThen_next]

/-- Steps one after another: `j + k` steps are `j` steps and then `k` steps. -/
theorem run_add (j k : Nat) (s : State) : run (j + k) s = andThen (run j s) (run k) := by
  induction j generalizing s with
  | zero => simp only [Nat.zero_add, run, andThen_next]
  | succ j ih =>
    rw [show j + 1 + k = j + k + 1 by omega, run, run, andThen_assoc]
    congr 1; funext t; exact ih t

end Sys2Proof.Machine
end

