-- ==== Sys2Proof/Laws/Operands.lean ====
section
/-! SUPPORT. The tables of the configuration can express every function R8 allows there (notes/assumptions/1.md), and the
ranges of the configuration's functions. -/

namespace Sys2Proof

/-- Looking a key up in the graph of a function on a list gives the function's value. -/
theorem lookup_graph {α β : Type} [BEq α] [LawfulBEq α] (f : α → β) (l : List α) (a : α) (h : a ∈ l) :
    (l.map (fun x => (x, f x))).lookup a = some (f a) := by
  induction l with
  | nil => cases h
  | cons b l ih =>
    by_cases hb : a = b
    · subst hb; simp
    · have : a ∈ l := by simpa [hb] using h
      simp [List.lookup_cons, beq_eq_false_iff_ne.2 hb, ih this]

/-- Every predicate on codes is some truth table: `isCompressorOn`, `isWarmup` and `isFilter` can be any (R8). -/
theorem truth_table_complete (f : Byte → Bool) : ∃ m : BitVec 256, ∀ c : Byte, m.getLsbD c.toNat = f c := by
  refine ⟨BitVec.ofFnLE (fun i : Fin 256 => f (BitVec.ofNat 8 i.val)), fun c => ?_⟩
  have hc : c.toNat < 256 := c.isLt
  simp [hc]

/-- Every function on any finite set of set-points is some `SP_CODE` (R8). -/
theorem spCode_complete (c : Cfg) (f : Int → Byte) (degrees : List Int) :
    ∃ table, ∀ d ∈ degrees, ({ c with spCodeTable := table } : Cfg).spCode d = f d :=
  ⟨degrees.map (fun d => (d, f d)), fun d hd => by simp [Cfg.spCode, lookup_graph f degrees d hd]⟩

/-- Every function from the two axes to the readings is some `combine` (R8, R500). -/
theorem combine_complete (c : Cfg) (f : Nat × Nat → Nat) (hf : ∀ p, f p < 2 ^ c.rawW) :
    ∃ table, ∀ x y, x < 2 ^ c.xW → y < 2 ^ c.yW → ({ c with combineTable := table } : Cfg).combine x y = f (x, y) := by
  refine ⟨((List.range (2 ^ c.xW)).product (List.range (2 ^ c.yW))).map (fun p => (p, f p)), fun x y hx hy => ?_⟩
  have hm : (x, y) ∈ (List.range (2 ^ c.xW)).product (List.range (2 ^ c.yW)) := by
    simp [List.pair_mem_product, hx, hy]
  simp only [Cfg.combine, lookup_graph f _ _ hm, Option.getD_some]
  exact Nat.mod_eq_of_lt (hf _)

/-- R500's default shape stays within the axes' bits, so nothing is cut off where `X_W + Y_W - 1 ≤ RAW_W`. -/
theorem combineDefault_lt (c : Cfg) (x y : Nat) (hy : y < 2 ^ c.yW) (hw : 1 ≤ c.yW) (hr : c.yW ≤ c.rawW + 1) :
    c.combineDefault x y < 2 ^ c.rawW := by
  unfold Cfg.combineDefault
  have h1 : x % 2 ^ (c.rawW + 1 - c.yW) < 2 ^ (c.rawW + 1 - c.yW) := Nat.mod_lt _ (by positivity)
  have h2 : y / 2 < 2 ^ (c.yW - 1) := by
    rw [Nat.div_lt_iff_lt_mul (by norm_num), ← pow_succ, Nat.sub_add_cancel hw]; exact hy
  have h3 : 2 ^ c.rawW = 2 ^ (c.rawW + 1 - c.yW) * 2 ^ (c.yW - 1) := by rw [← pow_add]; congr 1; omega
  calc x % 2 ^ (c.rawW + 1 - c.yW) * 2 ^ (c.yW - 1) + y / 2
      < x % 2 ^ (c.rawW + 1 - c.yW) * 2 ^ (c.yW - 1) + 2 ^ (c.yW - 1) := by omega
    _ = (x % 2 ^ (c.rawW + 1 - c.yW) + 1) * 2 ^ (c.yW - 1) := by ring
    _ ≤ 2 ^ (c.rawW + 1 - c.yW) * 2 ^ (c.yW - 1) := Nat.mul_le_mul_right _ h1
    _ = 2 ^ c.rawW := h3.symm

end Sys2Proof
end

