-- ==== Sys2Proof/Laws/PerInstr.lean ====
section
/-! SUPPORT. Statements about every instruction as syntax, one lemma per constructor. -/

namespace Sys2Proof.Laws.EncodedCode

/-- The word of an instruction carries its command code in `cw[15:8]` and its argument in `cw[7:0]`, and the code is one
of the fourteen of R306. -/
def Statement (i : Instr) : Prop := cwCode (encode i) = i.code ∧ cwArg (encode i) = i.arg ∧ i.code.toNat < 14

theorem off : Statement .off := ⟨rfl, rfl, by decide⟩
theorem ventilate : Statement .ventilate := ⟨rfl, rfl, by decide⟩
theorem thermoHeat : Statement .thermoHeat := ⟨rfl, rfl, by decide⟩
theorem thermoCool : Statement .thermoCool := ⟨rfl, rfl, by decide⟩
theorem thermoAuto : Statement .thermoAuto := ⟨rfl, rfl, by decide⟩
theorem heatMode : Statement .heatMode := ⟨rfl, rfl, by decide⟩
theorem coolMode : Statement .coolMode := ⟨rfl, rfl, by decide⟩
theorem fanMode : Statement .fanMode := ⟨rfl, rfl, by decide⟩
theorem fanHi : Statement .fanHi := ⟨rfl, rfl, by decide⟩
theorem fanMed : Statement .fanMed := ⟨rfl, rfl, by decide⟩
theorem fanLo : Statement .fanLo := ⟨rfl, rfl, by decide⟩

theorem damperPercent (n : Nat) : Statement (.damperPercent n) := by
  refine ⟨?_, ?_, show (0x0B : Byte).toNat < 14 by decide⟩ <;> apply BitVec.eq_of_getLsbD_eq <;> intro k hk
  · simp only [cwCode, encode, Instr.code, Instr.arg, BitVec.getLsbD_extractLsb', BitVec.getLsbD_append]
    simp [hk]
  · simp only [cwArg, encode, Instr.code, Instr.arg, BitVec.getLsbD_extractLsb', BitVec.getLsbD_append]
    simp [hk]

theorem updateStatus : Statement .updateStatus := ⟨rfl, rfl, by decide⟩
theorem heartbeatAck : Statement .heartbeatAck := ⟨rfl, rfl, by decide⟩

end Sys2Proof.Laws.EncodedCode
end

