-- ==== Sys2Proof/Tests/Slice0.lean ====
section
/-! SUPPORT. The model's own tests: expected values from 95_test_vectors.md (the vector's name stands at each test) or from
the rules by hand; then one witness per statement that has hypotheses. -/

open Sys2Proof Sys2Proof.Machine

namespace Sys2Proof.Tests

/-! ### Well-formedness: a term each check refuses -/

theorem test_wf_tc : Cfg.tc.wf = true := by decide +kernel
theorem test_wf_operand : (Instr.damperPercent 256).wf = false ∧ (Instr.damperPercent 255).wf = true := by decide
theorem test_wf_modeCodes : { Cfg.tc with modeCoolOn := 0x02 }.wf = false := by decide +kernel
theorem test_wf_fanCodes : { Cfg.tc with fanMed := 0x03 }.wf = false := by decide +kernel
theorem test_wf_drainCycles : { Cfg.tc with offDrainCycles := 0 }.wf = false := by decide +kernel
theorem test_wf_queueDepth : { Cfg.tc with cmdqDepth := 0 }.wf = false := by decide +kernel
theorem test_wf_nibbleOrder : { Cfg.tc with seqNibMin := 0xC }.wf = false := by decide +kernel
theorem test_wf_nibbleRange : { Cfg.tc with seqNibMax := 0x10 }.wf = false := by decide +kernel
theorem test_wf_byteRange : { Cfg.tc with seqByteMax := 0x100 }.wf = false := by decide +kernel
theorem test_wf_heartbeat : { Cfg.tc with hbEmit := 201 }.wf = false := by decide +kernel
theorem test_wf_checksumLast : { Cfg.tc with p2CsumSpan := 14 }.wf = false := by decide +kernel
theorem test_wf_offsets : { Cfg.tc with p2Off.compressor := 16 }.wf = false := by decide +kernel
theorem test_wf_quantStep : { Cfg.tc with quantStep := 0 }.wf = false ∧ { Cfg.tc with quantStep := 30 }.wf = false := by
  decide +kernel
theorem test_wf_quantHigh : { Cfg.tc with quantHigh := 101 }.wf = false := by decide +kernel
theorem test_wf_reqInit : { Cfg.tc with reqInit := 101 }.wf = false := by decide +kernel

/-! ### Decoding: `cw[15:8]` is the code, `cw[7:0]` the argument (R305, R306), bit by bit -/

theorem test_decode_off : decode 0b0000000000000000#16 = .ok .off := by decide
theorem test_decode_ventilate : decode 0b0000000100000000#16 = .ok .ventilate := by decide
theorem test_decode_thermoHeat : decode 0b0000001000000000#16 = .ok .thermoHeat := by decide
theorem test_decode_thermoCool : decode 0b0000001100000000#16 = .ok .thermoCool := by decide
theorem test_decode_thermoAuto : decode 0b0000010000000000#16 = .ok .thermoAuto := by decide
theorem test_decode_heatMode : decode 0b0000010100000000#16 = .ok .heatMode := by decide
theorem test_decode_coolMode : decode 0b0000011000000000#16 = .ok .coolMode := by decide
theorem test_decode_fanMode : decode 0b0000011100000000#16 = .ok .fanMode := by decide
theorem test_decode_fanHi : decode 0b0000100010100101#16 = .ok .fanHi := by decide
theorem test_decode_fanMed : decode 0b0000100100000000#16 = .ok .fanMed := by decide
theorem test_decode_fanLo : decode 0b0000101000000000#16 = .ok .fanLo := by decide
theorem test_decode_damperPercent : decode 0b0000101100110010#16 = .ok (.damperPercent 50) := by decide
theorem test_decode_damperPercent_max : decode 0b0000101111111111#16 = .ok (.damperPercent 255) := by decide
theorem test_decode_updateStatus : decode 0b0000110000000000#16 = .ok .updateStatus := by decide
theorem test_decode_heartbeatAck : decode 0b0000110100000000#16 = .ok .heartbeatAck := by decide
theorem test_decode_unknown : decode 0b0000111000000000#16 = .error (.unknownService 0x0E) := by decide
theorem test_table_word : decodeTableWord 16 0x0B32 = some (.damperPercent 50) ∧ decodeTableWord 16 0x0E00 = none := by decide
/-- R311: the assembler; an operand only where the syntax has one. -/
theorem test_assemble :
    assembleLine "THERMO_COOL" none = some 0x0300 ∧ assembleLine "DAMPER_PERCENT" (some 50) = some 0x0B32 ∧
      assembleLine "DAMPER_PERCENT" none = none ∧ assembleLine "DAMPER_PERCENT" (some 256) = none ∧
      assembleLine "FAN_HI" (some 1) = none := by decide +kernel

/-! ### States -/

/-- `S0`, written out from V-CAL-1 (the trace and the inputs empty, `RX_TEMP` as the model resets it). -/
def s0 : State :=
  { State.resetWith Cfg.tc with
    out := ⟨0x00, 0x15, 0x01⟩, seq := 0x008F, damper := ⟨100, 100, .ofNat 10 100, .ofNat 10 100, .ofNat 10 900, false⟩, hb := ⟨.ofNat 8 0, false⟩
    lines := ⟨false, false, true, true⟩, ctl := ⟨.ph0, false, .ofNat 1 0, .none, false, [], false⟩ }

/-- The flags `remote, fan, fan_lo`. -/
def remoteFanLo : ModeState := ⟨true, false, false, true, false, false, true, false, false, false, false⟩

/-- The state after V-CMD-4 (`THERMO_COOL` from `S0`). -/
def sRemote : State := { s0 with out := ⟨0x01, 0x12, 0x01⟩, flags := remoteFanLo, lines := ⟨true, true, true, true⟩ }

/-- The next state of an outcome; `State.reset` marks a stop. -/
def after : Host.Outcome State Fault Refusal → State
  | .next s => s
  | _ => State.reset

/-- The status record `STATUS{; dp=100}`. -/
def quiet : StatusRec := ⟨false, false, false, false, false, false, false, false, false, false, 100, false⟩

/-- The three events of `EnableRemote` (R615). -/
def enableEvents : List Event := [.line .remoteEn true, .line .damperEn true, .wait .remoteSettle]

/-- The valid Packet2 `V` of 95_test_vectors.md 2.3. -/
def v : List Byte :=
  [0x28, 0x1F, 0x01, 0x00, 0x12, 0x01, 0x17, 0x00, 0x80, 0x00, 0x00, 0x01, 0x00, 0x00, 0x00, 0xF3]

/-- `V` with a wrong checksum (V-DEC-2). -/
def vBad : List Byte := v.take 15 ++ [0xF4]

/-- The host's `RX` line for the next exchange. -/
def withRx (b : List Byte) (s : State) : State := sendRx (RxDraw.bytes b) s

/-! ### Reset (V-CAL-1, V-CAL-2) -/

/-- The state after reset with the calibration samples of V-CAL-1. -/
def sCal : State := after (step (sense 0 200 (sense 7 8 State.reset)))

theorem test_reset_calibration_state : { sCal with trace := [] } = s0 := by decide +kernel
theorem test_reset_calibration_events : sCal.trace =
    [.sensorSelftest .enter, .sensorSelftest .exit, .line .damperEn true, .line .damperZone false,
      .line .damperStop false, .wait .calTravel, .sensorSample 7 8, .line .damperZone true, .wait .calTravel,
      .sensorSample 0 200, .line .damperStop true, .line .damperEn false] := by decide +kernel
theorem test_calibration_inverted :
    (after (step (sense 7 8 (sense 0 200 State.reset)))).trace.getLast? = some (.diag 8 (.references 900 100)) ∧
      (after (step (sense 7 8 (sense 0 200 State.reset)))).damper = ⟨100, 100, .ofNat 10 900, .ofNat 10 900, .ofNat 10 100, false⟩ := by
  decide +kernel
/-- The refusal of an outcome, if it is one. -/
def refusal : Host.Outcome State Fault Refusal → Option Refusal
  | .refused r => some r
  | _ => none

theorem test_configuration_refused :
    refusal (step { s0 with cfg.offDrainCycles := 0 }) = some .badConfiguration ∧ refusal (step s0) = none := by
  decide +kernel

/-! ### Packets (V-CSUM, V-ENC, V-SCAN, V-DEC) -/

theorem test_checksum :
    checksum [] = 0x00 ∧ checksum [0xFF, 0x01] = 0x00 ∧ checksum [0xFF, 0xFF] = 0xFE ∧
      checksum [0x80, 0x80, 0x80] = 0x80 ∧ checksum (v.take 15) = 0xF3 := by decide +kernel
theorem test_checksum_text : textChecksum ("008f01001201".toList ++ "0000".toList) = some "a3".toList := by decide +kernel
theorem test_encode_packets :
    encode1 Cfg.tc 0x01 0x12 0x01 = [0x00, 0x8F, 0x01, 0x00, 0x12, 0x01, 0x00, 0x00, 0xA3] ∧
      encode3 Cfg.tc 0x009F 0x01 0x12 0x01 = [0x00, 0x9F, 0x01, 0x00, 0x12, 0x01, 0x00, 0x00, 0xB3] ∧
      encode3 Cfg.tc 0x32BF 0x02 0x1E 0x03 = [0x32, 0xBF, 0x02, 0x00, 0x1E, 0x03, 0x00, 0x00, 0x14] := by decide +kernel
/-- V-ENC-5 (notes/assumptions/16.md). -/
theorem test_encode_packet3_heat :
    encode3 Cfg.tc 0x009F 0x02 0x1E 0x03 = [0x00, 0x9F, 0x02, 0x00, 0x1E, 0x03, 0x00, 0x00, 0xC2] := by decide +kernel
theorem test_scan_late_marker :
    scanFrame Cfg.tc 16 none (RxDraw.bytes (List.replicate 14 0x00 ++ v)) = (.frame v, []) ∧
      (scanFrame Cfg.tc 16 none (RxDraw.bytes (List.replicate 15 0x00 ++ v))).1 = .frameNotFound := by decide +kernel
theorem test_scan_short :
    scanFrame Cfg.tc 16 none (RxDraw.bytes [0x28, 0x1F, 0x01]) = (.short [0x28, 0x1F, 0x01], []) ∧
      (scanFrame Cfg.tc 16 none (RxDraw.bytes (0x28 :: v))).1 = .frame v ∧
      (scanFrame Cfg.tc 16 none []).1 = .frameNotFound := by decide +kernel
theorem test_decode_packet2 :
    decodePacket2 Cfg.tc v = some ⟨0x01, 0x12, 0x01, 0x17, 0x80, 0x00, 0x01⟩ ∧ decodePacket2 Cfg.tc vBad = none := by
  decide +kernel
/-- V-DEC-3. -/
theorem test_diagnose :
    (diagnose ⟨0x03, 0x1E, 0x02, 0x17, 0x81, 0x00, 0x00⟩ ⟨0x01, 0x12, 0x01⟩ s0).trace =
      [.diag 3 (.field 0 0x81), .diag 3 (.field 1 0x03), .diag 3 (.field 2 0x1E), .diag 3 (.field 3 0x02)] := by
  decide +kernel

/-! ### Sequence numbers (V-SEQ) -/

theorem test_seqNext :
    seqNext Cfg.tc 0x008F = 0x009F ∧ seqNext Cfg.tc 0x00BF = 0x018F ∧ seqNext Cfg.tc 0x31BF = 0x328F ∧
      seqNext Cfg.tc 0x32BF = 0x008F := by decide +kernel
theorem test_seqNext_out_of_range :
    seqNext Cfg.tc 0x00CF = 0x018F ∧ seqNext Cfg.tc 0x40BF = 0x008F ∧ seqNext Cfg.tc 0x000F = 0x001F ∧
      seqNext Cfg.tc 0x0080 = 0x009F := by decide +kernel

/-! ### The damper (V-RAW, 2.7, V-DRV, V-ADJ) -/

theorem test_combine :
    Cfg.tc.combine 7 8 = 900 ∧ Cfg.tc.combine 3 232 = 500 ∧ Cfg.tc.combine 6 0 = 768 ∧ Cfg.tc.combine 7 255 = 1023 ∧
      Cfg.tc.combine 0 1 = 0 := by decide +kernel
theorem test_quantize :
    [(-3 : Rat), 5, 51 / 10, 149 / 10, 15, 45, 55, 85, 949 / 10, 95, 120].map (quantize Cfg.tc) =
      [0, 0, 10, 10, 20, 50, 60, 90, 90, 100, 100] := by decide +kernel
theorem test_linearize :
    [50, 140, 141, 220, 221, 500, 851, 852, 859, 860, 950].map (fun r => linearize Cfg.tc r 100 900) =
      [100, 100, 90, 90, 80, 50, 10, 10, 10, 0, 0] := by decide +kernel
/-- R5: the literals 5, 95 and 10 are parameters, by hand from R503: nearest 20 is `20 * floor((p + 10) / 20)`. -/
theorem test_quantize_parameters :
    [(8 : Rat), 9, 29, 30, 89, 90].map (quantize { Cfg.tc with quantLow := 8, quantHigh := 90, quantStep := 20 }) =
      [0, 0, 20, 40, 80, 100] ∧
    [820, 668, 660, 180].map (fun r => linearize { Cfg.tc with quantLow := 8, quantHigh := 90, quantStep := 20 } r 100 900) =
      [20, 20, 40, 100] := by decide +kernel
theorem test_drive :
    drive 100 90 = .day ∧ drive 0 10 = .night ∧ drive 50 50 = .hold ∧ drive 100 100 = .day ∧ drive 0 0 = .night ∧
      drive 55 60 = .night := by decide
/-- V-ADJ-1. -/
theorem test_adjust_day :
    (damperAdjust (sense 3 232 s0)).trace = [.sensorSample 3 232, .line .damperZone true, .line .damperStop false] ∧
      (damperAdjust (sense 3 232 s0)).damper = ⟨100, 50, .ofNat 10 500, .ofNat 10 100, .ofNat 10 900, true⟩ := by decide +kernel
/-- V-ADJ-7. -/
theorem test_adjust_degenerate :
    (damperAdjust (sense 3 232 { s0 with damper.dayRef := .ofNat 10 900, damper.nightRef := .ofNat 10 100 })).trace =
      [.sensorSample 3 232, .diag 7 (.references 900 100), .line .damperStop true] := by decide +kernel

/-! ### Commands from `S0` (V-CMD) and under remote control (V-RCMD) -/

/-- R105: eight bits under the default `HB_LOST`, nine from 255 on; R109. -/
theorem test_widths :
    Cfg.tc.hbCntWidth = 8 ∧ { Cfg.tc with hbLost := 254 }.hbCntWidth = 8 ∧ { Cfg.tc with hbLost := 255 }.hbCntWidth = 9 ∧
      Cfg.tc.drainCntWidth = 1 ∧ ((Reg.ofNat 8 255).write 256).toNat = 0 := by decide +kernel

theorem test_off : after (exec .off s0) = { s0 with trace := [.status quiet] } := by decide +kernel
/-- V-RCMD-1. -/
theorem test_off_remote : after (exec .off sRemote) =
    { sRemote with out.mode := 0x00, flags := ⟨true, false, false, false, false, false, false, false, false, false, false⟩
                   ctl.drainCnt := .ofNat 1 1, trace := [.status { quiet with remoteOperation := true }] } := by decide +kernel
theorem test_ventilate : (after (exec .ventilate s0)).trace =
    enableEvents ++ [.status { quiet with remoteOperation := true, fan := true, fanHi := true }] ∧
      (after (exec .ventilate s0)).out = ⟨0x01, 0x15, 0x03⟩ := by decide +kernel
/-- V-RCMD-3, its second word: the pending drain is cancelled. -/
theorem test_ventilate_cancels_drain : after (exec .ventilate { sRemote with ctl.drainCnt := .ofNat 1 1 }) =
    { sRemote with out := ⟨0x01, 0x15, 0x03⟩
                   flags := ⟨true, false, false, true, true, false, false, false, false, false, false⟩
                   trace := [.status { quiet with remoteOperation := true, fan := true, fanHi := true }] } := by
  decide +kernel
theorem test_thermoHeat : (after (exec .thermoHeat s0)).trace =
    enableEvents ++ [.status { quiet with remoteOperation := true, fan := true, fanLo := true }] ∧
      (after (exec .thermoHeat s0)).out = ⟨0x01, 0x1E, 0x01⟩ := by decide +kernel
theorem test_thermoCool : after (exec .thermoCool s0) =
    { sRemote with trace := enableEvents ++ [.status { quiet with remoteOperation := true, fan := true, fanLo := true }] } := by
  decide +kernel
theorem test_thermoAuto : after (exec .thermoAuto s0) = s0 := by decide +kernel
theorem test_heatMode : after (exec .heatMode s0) =
    { s0 with out := ⟨0x02, 0x1E, 0x03⟩, flags := { s0.flags with heat := true, fanHi := true }
              trace := [.status { quiet with heat := true, fanHi := true }] } := by decide +kernel
/-- V-RCMD-4, its second word: the pending drain is not cancelled. -/
theorem test_heatMode_keeps_drain : (after (exec .heatMode { sRemote with ctl.drainCnt := .ofNat 1 1 })).ctl.drainCnt.toNat = 1 := by
  decide +kernel
theorem test_coolMode : after (exec .coolMode s0) =
    { s0 with out := ⟨0x03, 0x12, 0x03⟩, flags := { s0.flags with cool := true, fanHi := true }
              trace := [.status { quiet with cool := true, fanHi := true }] } := by decide +kernel
theorem test_fanMode : after (exec .fanMode s0) =
    { s0 with out := ⟨0x01, 0x15, 0x01⟩, flags := { s0.flags with fanOn := true, fanLo := true }
              trace := [.status { quiet with fan := true, fanLo := true }] } := by decide +kernel
theorem test_fanHi : after (exec .fanHi s0) =
    { s0 with out.fan := 0x03, flags.fanHi := true, trace := [.status { quiet with fanHi := true }] } := by decide +kernel
/-- V-RCMD-6. -/
theorem test_fanMed : after (exec .fanMed sRemote) =
    { sRemote with out.fan := 0x02, flags := { remoteFanLo with fanMed := true, fanLo := false }
                   trace := [.status { quiet with remoteOperation := true, fan := true, fanMed := true }] } := by
  decide +kernel
theorem test_fanLo : after (exec .fanLo s0) =
    { s0 with out.fan := 0x01, flags.fanLo := true, trace := [.status { quiet with fanLo := true }] } := by decide +kernel
theorem test_damperPercent :
    after (exec (.damperPercent 50) s0) = { s0 with damper.req := 50 } ∧
      after (exec (.damperPercent 100) { s0 with damper.req := 0 }) = s0 := by decide +kernel
theorem test_damperPercent_bad :
    after (exec (.damperPercent 101) s0) = { s0 with trace := [.diag 6 (.number 101)] } := by decide +kernel
theorem test_updateStatus : after (exec .updateStatus s0) = { s0 with trace := [.status quiet] } := by decide +kernel
theorem test_heartbeatAck : after (exec .heartbeatAck { s0 with hb := ⟨.ofNat 8 150, true⟩ }) = s0 := by decide +kernel
/-- V-CMD-19 and V-CMD-21. -/
theorem test_dispatch_rejections :
    (after (dispatch 0x0E00 s0)).trace = [.diag 5 (.number 0x0E)] ∧
      (after (dispatch 0x0000 { s0 with ctl.term := .shutdown })).trace = [.diag 9 (.command 0x0000)] := by decide +kernel

/-! ### Observations (V-OBS) -/

/-- V-OBS-4: heating is checked before filter. -/
theorem test_observe_order : (observe ⟨0x01, 0x12, 0x01, 0x17, 0x80, 0x03, 0x00⟩ sRemote).trace =
    [.status { quiet with remoteOperation := true, fan := true, fanLo := true, heating := true },
      .status { quiet with remoteOperation := true, fan := true, fanLo := true, heating := true, filter := true }] := by
  decide +kernel
/-- V-OBS-6 and V-OBS-7. -/
theorem test_malfunction_clear :
    (acceptPacket2 ⟨0x01, 0x12, 0x01, 0x17, 0x80, 0x00, 0x00⟩ ⟨0x01, 0x12, 0x01⟩
      { sRemote with flags.malfunction := true }).flags.malfunction = false ∧
    (acceptPacket2 ⟨0x01, 0x12, 0x01, 0x17, 0x80, 0x00, 0x00⟩ ⟨0x01, 0x12, 0x01⟩
      { sRemote with flags.malfunction := true, hb.missed := true }).flags.malfunction = true := by decide +kernel
/-- TC's predicates: V-OBS-8 with the codes beside it. -/
theorem test_predicates :
    Cfg.tc.isCompressorOn 0x80 = true ∧ Cfg.tc.isCompressorOn 0x00 = false ∧ Cfg.tc.isWarmup 0x04 = false ∧
      Cfg.tc.isFilter 0x04 = false ∧ Cfg.tc.isWarmup 0xFF = true ∧ Cfg.tc.isFilter 0xFE = true ∧ Cfg.tc.isCompressorOn 0xFF = true := by
  decide +kernel

/-! ### The watchdog (V-WD) -/

/-- V-WD-2. -/
theorem test_heartbeat : after (step { s0 with hb.cnt := .ofNat 8 119 }) =
    { s0 with hb.cnt := .ofNat 8 120, trace := [.heartbeat, .wait .idle] } := by decide +kernel
/-- V-WD-4: the events and the end. -/
theorem test_link_lost : (after (step { s0 with hb.cnt := .ofNat 8 200 })).trace =
    [.diag 4 (.number 201), .status { quiet with malfunction := true }, .wait .idle, .line .remoteEn false,
      .line .damperEn false, .line .damperStop false, .line .damperZone false, .status { quiet with malfunction := true },
      .restartNotice, .fatalRestart] ∧
    (after (step { s0 with hb.cnt := .ofNat 8 200 })).ctl = ⟨.ph0, false, .ofNat 1 0, .fatal, true, [], false⟩ ∧
    (after (step { s0 with hb.cnt := .ofNat 8 200 })).hb = ⟨.ofNat 8 0, true⟩ := by decide +kernel

/-! ### Programs -/

/-- P1, cycle 1: the trace and the end state. -/
theorem test_p1 : after (step (sense 3 232 (withRx v (enqueue 0x0300 s0)))) =
    { s0 with
      out := ⟨0x01, 0x12, 0x01⟩, seq := 0x009F, flags := { remoteFanLo with compressor := true }
      damper := ⟨100, 50, .ofNat 10 500, .ofNat 10 100, .ofNat 10 900, true⟩, hb.cnt := .ofNat 8 1, rxTemp := 0x17, lines := ⟨true, true, false, true⟩
      ctl.remotePrev := true
      trace := enableEvents ++
        [.status { quiet with remoteOperation := true, fan := true, fanLo := true }, .serFlush,
          .serWrite [0x00, 0x8F, 0x01, 0x00, 0x12, 0x01, 0x00, 0x00, 0xA3], .wait .txSettle, .serFlush, .wait .gap,
          .status { quiet with remoteOperation := true, fan := true, fanLo := true, compressor := true },
          .serWrite [0x00, 0x8F, 0x01, 0x00, 0x12, 0x01, 0x00, 0x00, 0xA3], .wait .finalGap, .sensorSample 3 232,
          .line .damperZone true, .line .damperStop false] } := by decide +kernel
/-- P2, cycle 2: a wrong checksum from the state P1 leaves. -/
theorem test_p2 :
    let s := after (step (sense 3 232 (withRx vBad { sRemote with seq := 0x009F, ctl.remotePrev := true, hb.cnt := .ofNat 8 1
                                                                  damper.reported := 50 })))
    s.seq = 0x009F ∧ s.hb.cnt.toNat = 2 ∧ s.trace =
      [.serFlush, .serWrite [0x00, 0x8F, 0x01, 0x00, 0x12, 0x01, 0x00, 0x00, 0xA3], .wait .txSettle, .serFlush,
        .wait .gap, .diag 1 (.mismatch 0xF4),
        .status { quiet with remoteOperation := true, fan := true, fanLo := true, malfunction := true, damperPercent := 50 },
        .wait .finalGap, .sensorSample 3 232, .line .damperZone true, .line .damperStop false] := by decide +kernel
/-- P3, cycle 5: the deactivation after the drain. -/
theorem test_deactivation : (after (step { s0 with ctl.remotePrev := true, lines := ⟨true, true, false, true⟩ })).trace =
    releaseEvents ++ [.status quiet] := by decide +kernel
/-- R902, R810: a shutdown from `S0`. -/
theorem test_shutdown : (after (step (setShutdown true s0))).trace =
    [.status quiet, .wait .idle] ++ releaseEvents ++ [.close .sensor, .close .serial, .exit] := by decide +kernel
/-- The host's word runs as the next command after reset. -/
theorem test_withFetchWord :
    (after (step (State.reset.withFetchWord 16 0x0B32))).damper.req = 50 ∧
      (after (step (State.reset.withFetchWord 16 0x0500))).out = ⟨0x02, 0x1E, 0x03⟩ := by decide +kernel

/-! ### Witnesses: for each statement with hypotheses, values that meet them all (each clause at its boundary) -/

theorem witness_DecodeEncodeRoundTrip : (Instr.damperPercent 255).wf = true ∧ (Instr.damperPercent 0).wf = true := by decide
theorem witness_AcceptedWordsReassemble :
    decode 0x0BFF = .ok (.damperPercent 255) ∧ decode 0x0DFF = .ok .heartbeatAck ∧
      decode 0x0E00 = .error (.unknownService 0x0E) := by decide
theorem witness_CommandCodeTable : 0x0E ≤ (0x0E : Byte).toNat ∧ 0x0E ≤ (0xFF : Byte).toNat := by decide
theorem witness_PacketLayouts : 1 < Cfg.tc.p1Trailer.length ∧ 1 < Cfg.tc.p3Trailer.length := by decide
theorem witness_ChecksumRoundTrip : (v.take 15).length = Cfg.tc.p2CsumSpan := by decide
theorem witness_PacketsAgree : Cfg.tc.p3Trailer = Cfg.tc.p1Trailer := by decide
theorem witness_ReceiveFrameOutcomes_frame :
    (∀ k, k < (List.replicate 14 (0x00 : Byte)).length →
      ¬ markerAt Cfg.tc (List.replicate 14 0x00 ++ [Cfg.tc.p2Header.1, Cfg.tc.p2Header.2]) k) ∧
    (List.replicate 14 (0x00 : Byte)).length + 2 ≤ Cfg.tc.p2Len ∧ (v.drop 2).length = Cfg.tc.p2Len - 2 ∧
    (v.drop 3).length < Cfg.tc.p2Len - 2 ∧ ([] : List Byte).length < Cfg.tc.p2Len - 2 := by
  unfold markerAt; decide
theorem witness_ReceiveFrameOutcomes_none :
    (∀ n k, ¬ markerAt Cfg.tc (List.replicate n 0x00) k) ∧ (List.replicate 15 (0x00 : Byte)).length < Cfg.tc.p2Len ∧
      (List.replicate 16 (0x00 : Byte)).length = Cfg.tc.p2Len := by
  refine ⟨fun n k h => ?_, by decide, by decide⟩
  obtain ⟨_, hk⟩ := List.getElem?_eq_some_iff.1 h.1
  simp [Cfg.tc] at hk
theorem witness_ReceivedFramesAreWhole :
    (scanFrame Cfg.tc Cfg.tc.p2Len none (RxDraw.bytes v)).1 = .frame v ∧
      (scanFrame Cfg.tc Cfg.tc.p2Len none (RxDraw.bytes (v.take 15))).1 = .short (v.take 15) := by decide +kernel
theorem witness_DecodeBySumAndOffset :
    checksum (vBad.take Cfg.tc.p2CsumSpan) ≠ byteAt vBad Cfg.tc.p2CsumSpan ∧
      checksum (v.take Cfg.tc.p2CsumSpan) = byteAt v Cfg.tc.p2CsumSpan := by decide +kernel
theorem witness_SeqNextCounters :
    Cfg.tc.wf = true ∧ (seqNib 0x00AF).toNat < Cfg.tc.seqNibMax ∧ Cfg.tc.seqNibMax ≤ (seqNib 0x32BF).toNat ∧
      (seqHigh 0x31BF).toNat < Cfg.tc.seqByteMax ∧ ¬ (seqHigh 0x32BF).toNat < Cfg.tc.seqByteMax := by decide +kernel
theorem witness_SequenceCycle :
    Cfg.tc.wf = true ∧ seqSpace Cfg.tc 0x008F ∧ seqSpace Cfg.tc 0x32BF ∧ Cfg.tc.seqByteMax = 0x32 ∧
      Cfg.tc.seqNibMin = 0x8 ∧ Cfg.tc.seqNibMax = 0xB := by unfold seqSpace; decide +kernel
theorem witness_LinearizeIsExact :
    (100 : Nat) < 900 ∧ (899 : Nat) < 900 ∧ Cfg.tc.quantLow = 5 ∧ Cfg.tc.quantHigh = 95 ∧ Cfg.tc.quantStep = 10 ∧
      Cfg.tc.wf = true := by decide +kernel
theorem witness_QuantizeOwnership_literals :
    Cfg.tc.quantLow = 5 ∧ Cfg.tc.quantHigh = 95 ∧ Cfg.tc.quantStep = 10 := by decide +kernel
theorem witness_QuantizeOwnership :
    (95 : Rat) ≤ 95 ∧ (5 : Rat) ≤ 5 ∧ ((5 : Rat) < 51 / 10 ∧ (51 / 10 : Rat) < 15) ∧
      (10 * ((2 : Nat) : Rat) - 5 ≤ 15 ∧ (15 : Rat) < 10 * ((2 : Nat) : Rat) + 5) ∧
      (10 * ((9 : Nat) : Rat) - 5 ≤ 949 / 10 ∧ (949 / 10 : Rat) < 10 * ((9 : Nat) : Rat) + 5) := by norm_num
theorem witness_DrivePolicy :
    (1 : Nat) > 0 ∧ (99 : Nat) < 100 ∧ (0 < (1 : Nat) ∧ (99 : Nat) < 100) ∧ (100 ≤ 100 ∧ 90 % 10 = 0 ∧ drive 90 90 = .hold) := by
  decide
theorem witness_ReadingsWithinWidths :
    (sense 3 232 s0).inp.samples = [(3, 232)] ∧ s0.inp.samples = [] := by decide
theorem witness_DamperAdjustStep :
    s0.damper.raw.width = s0.cfg.rawW ∧ s0.damper.dayRef.toNat < s0.damper.nightRef.toNat ∧
      { s0.damper with dayRef := .ofNat 10 900 }.nightRef.toNat ≤
        { s0.damper with dayRef := .ofNat 10 900 }.dayRef.toNat := by decide
theorem witness_RemoteModesResult :
    s0.flags.remoteOperation = false ∧ sRemote.flags.remoteOperation = true ∧ sRemote.ctl.term = .none := by decide
theorem witness_DamperPercentResult : (100 : Nat) ≤ 100 ∧ (100 : Nat) < 101 := by decide
theorem witness_OnlyThreeCommandsStartRemote :
    exec .thermoCool s0 = .next (after (exec .thermoCool s0)) ∧
      (after (exec .thermoCool s0)).flags.remoteOperation ≠ s0.flags.remoteOperation :=
  ⟨rfl, by decide +kernel⟩
theorem witness_DispatchRejections :
    s0.ctl.term = .none ∧ 0x0E ≤ (cwCode 0x0E00).toNat ∧ { s0 with ctl.term := .fatal }.ctl.term ≠ .none ∧
      decode 0x0DFF = .ok .heartbeatAck := by decide +kernel
theorem witness_WatchdogTickCases :
    (s0.hb.cnt.width = s0.cfg.hbCntWidth ∧ { s0 with hb.cnt := .ofNat 8 200 }.hb.cnt.toNat ≤ s0.cfg.hbLost) ∧
      { s0 with ctl.term := .shutdown }.ctl.term ≠ .none ∧ s0.ctl.term = .none ∧
      ((Reg.ofNat 8 199).write ((Reg.ofNat 8 199).toNat + 1)).toNat ≤ s0.cfg.hbLost ∧
      s0.cfg.hbLost < ((Reg.ofNat 8 200).write ((Reg.ofNat 8 200).toNat + 1)).toNat := by decide +kernel
theorem witness_WatchdogFiresOnce :
    s0.cfg.wf = true ∧ s0.ctl.term = .none ∧ s0.hb.cnt = .ofNat s0.cfg.hbCntWidth 0 ∧
      { s0 with cfg.hbEmit := 0 }.cfg.wf = true := by decide +kernel

/-- A state in which a lost link is being drained. -/
def sFatal : State :=
  { sRemote with out.mode := 0x00, flags := { sRemote.flags with fanOn := false, fanLo := false, malfunction := true }
                 hb := ⟨.ofNat 8 201, true⟩, ctl := { s0.ctl with remotePrev := true, drainCnt := .ofNat 1 1, term := .fatal } }

/-- The same for a shutdown. -/
def sShutdown : State :=
  { sRemote with out.mode := 0x00, flags := { sRemote.flags with fanOn := false, fanLo := false }
                 inp.shutdownReq := true, ctl := { s0.ctl with remotePrev := true, drainCnt := .ofNat 1 1, term := .shutdown } }

/-- Under remote operation after an `OFF`. -/
def sDraining : State := { sRemote with out.mode := 0x00, ctl.remotePrev := true, ctl.drainCnt := .ofNat 1 1 }

/-- `S0` halted. -/
def sHalted : State := { s0 with ctl.halted := true, ctl.term := .shutdown, lines := releasedLines }

theorem s0_sized : Sized s0 := by constructor <;> decide +kernel
theorem s0_inv : s0.Inv := by constructor <;> first | exact s0_sized | decide +kernel
theorem sFatal_sized : Sized sFatal := by constructor <;> decide +kernel
theorem sFatal_inv : sFatal.Inv := by constructor <;> first | exact sFatal_sized | decide +kernel
theorem sShutdown_sized : Sized sShutdown := by constructor <;> decide +kernel
theorem sShutdown_inv : sShutdown.Inv := by constructor <;> first | exact sShutdown_sized | decide +kernel
theorem sDraining_sized : Sized sDraining := by constructor <;> decide +kernel
theorem sDraining_inv : sDraining.Inv := by constructor <;> first | exact sDraining_sized | decide +kernel
theorem sHalted_sized : Sized sHalted := by constructor <;> decide +kernel
theorem sHalted_inv : sHalted.Inv := by constructor <;> first | exact sHalted_sized | decide +kernel
theorem s0_running : Running s0 := by constructor <;> decide +kernel
theorem s0_quiet : Quiet s0 := by constructor <;> decide +kernel
theorem sFatal_running : Running sFatal := by constructor <;> decide +kernel
theorem sShutdown_running : Running sShutdown := by constructor <;> decide +kernel

theorem witness_TerminalDiscardsQueue : sFatal.ctl.term ≠ .none := by decide
theorem witness_StepRunsDecodedCommand :
    Running (enqueue 0x0300 s0) ∧ (enqueue 0x0300 s0).inp.shutdownReq = false ∧ (enqueue 0x0300 s0).ctl.term = .none ∧
      (enqueue 0x0300 s0).ctl.cmdq = [0x0300] ∧ decode 0x0300 = .ok .thermoCool ∧
      exec .thermoCool { s0 with ctl.phase := .ph1, ctl.cmdq := [] } =
        .next (after (exec .thermoCool { s0 with ctl.phase := .ph1, ctl.cmdq := [] })) :=
  ⟨by constructor <;> decide +kernel, by decide +kernel, by decide +kernel, by decide +kernel, by decide, rfl⟩
theorem witness_StepsNeverTrap : s0.cfg.wf = true ∧ { s0 with cfg.offDrainCycles := 0 }.cfg.wf = false := by decide +kernel
theorem witness_HaltedIsFinal :
    sHalted.cfg.wf = true ∧ sHalted.ctl.phase = .ph0 ∧ sHalted.ctl.resetPending = false ∧ sHalted.ctl.halted = true := by
  decide +kernel
theorem witness_FailedExchange :
    receptionFailure Cfg.tc (exchangeReception sRemote) = some (.diag 2 .nothing) ∧
      receptionFailure Cfg.tc (exchangeReception (withRx (v.take 15) sRemote)) = some (.diag 1 (.short 15)) ∧
      receptionFailure Cfg.tc (exchangeReception (withRx vBad sRemote)) = some (.diag 1 (.mismatch 0xF4)) := by decide +kernel
theorem witness_SuccessfulExchange :
    exchangeReception (withRx v sRemote) = .frame v ∧
      decodePacket2 Cfg.tc v = some ⟨0x01, 0x12, 0x01, 0x17, 0x80, 0x00, 0x01⟩ := by decide +kernel
theorem witness_SequenceContinuity : Running s0 ∧ step s0 = .next (after (step s0)) := ⟨s0_running, rfl⟩
theorem witness_Phase3Branches :
    sRemote.flags.remoteOperation = true ∧
      ({ s0 with ctl.remotePrev := true }.flags.remoteOperation = false ∧ { s0 with ctl.remotePrev := true }.ctl.remotePrev = true) ∧
      (s0.flags.remoteOperation = false ∧ s0.ctl.remotePrev = false) := by decide +kernel
theorem witness_DrainStepCases :
    s0.ctl.drainCnt.toNat = 0 ∧ 1 < { sDraining with ctl.drainCnt := .ofNat 2 2 }.ctl.drainCnt.toNat ∧
      (sDraining.ctl.drainCnt.toNat = 1 ∧ sDraining.ctl.term = .none) ∧
      (sFatal.ctl.drainCnt.toNat = 1 ∧ sFatal.ctl.term = .fatal) ∧
      (sShutdown.ctl.drainCnt.toNat = 1 ∧ sShutdown.ctl.term = .shutdown) := by decide +kernel
theorem witness_TerminalSequenceHalts :
    (sFatal.Inv ∧ Running sFatal ∧ sFatal.ctl.term = .fatal) ∧
      (sShutdown.Inv ∧ Running sShutdown ∧ sShutdown.ctl.term = .shutdown) :=
  ⟨⟨sFatal_inv, sFatal_running, rfl⟩, sShutdown_inv, sShutdown_running, rfl⟩
theorem witness_OffDrainTearsDown :
    sDraining.Inv ∧ Running sDraining ∧ Quiet sDraining ∧ sDraining.ctl.term = .none ∧ 0 < sDraining.ctl.drainCnt.toNat ∧
      sDraining.hb.cnt.toNat + sDraining.ctl.drainCnt.toNat ≤ sDraining.cfg.hbLost :=
  ⟨sDraining_inv, by constructor <;> decide +kernel, by constructor <;> decide +kernel, by decide, by decide, by decide⟩
theorem witness_ShutdownSampledAtPhase0 :
    ((setShutdown true s0).inp.shutdownReq = true ∧ (setShutdown true s0).ctl.term = .none) ∧
      s0.inp.shutdownReq = false ∧ (sShutdown.inp.shutdownReq = true ∧ sShutdown.ctl.term ≠ .none) := by decide +kernel
/-- The queue holds commands when the shutdown is sampled. -/
theorem witness_ShutdownSampledAtPhase0_commands :
    let s := setShutdown true (enqueue 0x0D00 (enqueue 0x0300 s0))
    Running s ∧ s.inp.shutdownReq = true ∧ s.ctl.term = .none ∧ s.ctl.cmdq = [0x0300, 0x0D00] :=
  ⟨by constructor <;> decide +kernel, by decide +kernel, by decide +kernel, by decide +kernel⟩
theorem witness_LastMomentAckKeepsLink :
    let s := enqueue 0x0D00 { s0 with hb.cnt := .ofNat 8 200 }
    Running s ∧ s.inp.shutdownReq = false ∧ s.ctl.term = .none ∧ s.hb.cnt.toNat = s.cfg.hbLost ∧ 1 ≤ s.cfg.hbLost ∧
      s.ctl.cmdq = [0x0D00] ∧ decode 0x0D00 = .ok .heartbeatAck :=
  ⟨by constructor <;> decide +kernel, by decide +kernel, by decide +kernel, by decide +kernel, by decide +kernel,
    by decide +kernel, by decide⟩
theorem witness_EnqueueBackpressure :
    { s0 with ctl.cmdq := List.replicate 15 0x0C00 }.ctl.cmdq.length < s0.cfg.cmdqDepth ∧
      s0.cfg.cmdqDepth ≤ { s0 with ctl.cmdq := List.replicate 16 0x0C00 }.ctl.cmdq.length := by decide +kernel
theorem witness_ResetSequenceResult : sRemote.cfg.wf = true := by decide +kernel
theorem witness_NothingSurvivesReset : s0.cfg = sFatal.cfg ∧ s0.inp = sFatal.inp ∧ s0 ≠ sFatal := by decide +kernel
theorem witness_SilentSupervisorLosesLink :
    Running s0 ∧ Quiet s0 ∧ Idle s0 ∧ Sized s0 ∧ s0.hb.cnt = .ofNat s0.cfg.hbCntWidth 0 :=
  ⟨s0_running, s0_quiet, by constructor <;> decide +kernel, by constructor <;> decide +kernel, by decide +kernel⟩
theorem witness_RegistersAreFixedWidth :
    exec .heartbeatAck s0 = .next (after (exec .heartbeatAck s0)) ∧ step s0 = .next (after (step s0)) ∧
      Cfg.tc.hbLost = 200 := ⟨rfl, rfl, rfl⟩
theorem witness_StepKeepsInvariant : sFatal.Inv ∧ step sFatal = .next (after (step sFatal)) := ⟨sFatal_inv, rfl⟩
theorem witness_ResetMeetsInvariant : Cfg.tc.wf = true ∧ { Cfg.tc with hbEmit := 200, offDrainCycles := 3 }.wf = true := by
  decide +kernel
theorem witness_HostMovesKeepInvariant : sHalted.Inv ∧ s0.Inv := ⟨sHalted_inv, s0_inv⟩
theorem witness_StepKeepsConfigAndTrace : step s0 = .next (after (step s0)) := rfl

end Sys2Proof.Tests
end

section
/-! PROOFS. Scope (00_scope.md section 4, R9): which configurations step and which are refused. -/

namespace Sys2Proof.Machine

/-! ### What one step is, case by case -/

/-- R9: a step of a state whose configuration breaks the check is refused by name. -/
theorem step_of_not_wf {s : State} (h : s.cfg.wf = false) : step s = .refused .badConfiguration := by
  simp [step, advance, h]

/-- R1000: with the reset calibration still to come, a step is that calibration. -/
theorem step_of_resetPending {s : State} (h : s.cfg.wf = true) (hr : s.ctl.resetPending = true) :
    step s = .next (finishReset s) := by
  simp [step, advance, h, hr]

/-- R12, R214: past the reset sequence, a step is one cycle. -/
theorem step_of_not_resetPending {s : State} (h : s.cfg.wf = true) (hr : s.ctl.resetPending = false) :
    step s = cycle s := by
  simp [step, advance, h, hr]

/-! ### The parts of a cycle complete -/

/-- R802: phase PH1 completes on every state, because the loop over the queued words does. -/
theorem phase1_completes (s : State) : ∃ t, phase1 s = .next t := by
  obtain ⟨u, hu, -⟩ := drainWords_frame s.ctl.cmdq s
  exact ⟨_, by rw [phase1, drainCommands, hu, andThen_next]⟩

/-- PH1 is the only phase whose outcome is not a next state by definition, so the rest of a cycle completes with it. -/
theorem commandsThenRest_completes (s : State) :
    ∃ t, andThen (phase1 s) (fun u => .next (afterCommands u)) = .next t := by
  obtain ⟨u, hu⟩ := phase1_completes s
  exact ⟨afterCommands u, by rw [hu, andThen_next]⟩

/-- R800: a cycle completes from whatever phase the state stands in (notes/assumptions/3.md). -/
theorem cycle_completes (s : State) : ∃ t, cycle s = .next t := by
  unfold cycle
  cases s.ctl.phase with
  | ph0 =>
    cases s.ctl.halted with
    | true => exact ⟨s, rfl⟩
    | false => exact commandsThenRest_completes (phase0 s)
  | ph1 => exact commandsThenRest_completes s
  | ph2 | ph3 | ph4 | ph5 => exact ⟨_, rfl⟩

/-- A step completes under every legal configuration, in the reset sequence and past it. -/
theorem step_completes {s : State} (h : s.cfg.wf = true) : ∃ t, step s = .next t := by
  cases hr : s.ctl.resetPending with
  | true => exact ⟨finishReset s, step_of_resetPending h hr⟩
  | false => rw [step_of_not_resetPending h hr]; exact cycle_completes s

/-- Settles O38, by the two branches of the configuration check. -/
theorem stepsNeverTrap : Obligations.StepsNeverTrap :=
  fun _ => ⟨step_completes, step_of_not_wf⟩

end Sys2Proof.Machine
end

section
/-! PROOFS. What no step changes (10_state.md R100, R104, R105, R109, R110; 20_memory.md R206): the configuration, the
widths of the registers, and the trace already emitted. -/

namespace Sys2Proof.Machine

/-- What is fixed for a run: the configuration (R110) and the width of every register the configuration sizes (R100). -/
def fixedPart (s : State) : Cfg × List Nat :=
  (s.cfg, [s.damper.raw.width, s.damper.dayRef.width, s.damper.nightRef.width, s.hb.cnt.width, s.ctl.drainCnt.width])

/-- `t` can come after `s` in a run: the fixed part is the same, and the trace has only grown (R206). -/
structure Evolves (s t : State) : Prop where
  fixed : fixedPart t = fixedPart s
  trace : ∃ evs, Emits s t evs

theorem Evolves.trans {s t u : State} (h : Evolves s t) (k : Evolves t u) : Evolves s u := by
  obtain ⟨e₁, h₁⟩ := h.trace
  obtain ⟨e₂, h₂⟩ := k.trace
  refine ⟨k.fixed.trans h.fixed, e₁ ++ e₂, ?_⟩
  rw [Emits, h₂, h₁, List.append_assoc]

/-- An update that writes neither the trace nor anything fixed. -/
theorem evolves_of_eq {s t : State} (hf : fixedPart t = fixedPart s) (ht : t.trace = s.trace) : Evolves s t :=
  ⟨hf, [], by simp [Emits, ht]⟩

theorem Evolves.refl (s : State) : Evolves s s := evolves_of_eq rfl rfl

/-- A phase ends by writing sequencer registers; of these only the width of `DRAIN_CNT` is fixed. -/
theorem Evolves.setSequencer {s t : State} (h : Evolves s t) {c : SequencerState}
    (hc : c.drainCnt.width = t.ctl.drainCnt.width := by rfl) : Evolves s { t with ctl := c } :=
  h.trans (evolves_of_eq (by simp [fixedPart, hc]) rfl)

theorem Evolves.cfg {s t : State} (h : Evolves s t) : t.cfg = s.cfg := congrArg Prod.fst h.fixed

theorem Evolves.sameWidths {s t : State} (h : Evolves s t) : SameWidths s t := by
  have hw := congrArg Prod.snd h.fixed
  simp only [fixedPart, List.cons.injEq, and_true] at hw
  obtain ⟨hraw, hday, hnight, hhb, hdrain⟩ := hw
  exact ⟨hraw, hday, hnight, hhb, hdrain⟩

/-! ### The shared operations -/

theorem emit_evolves (e : Event) (s : State) : Evolves s (emit e s) := ⟨rfl, [e], rfl⟩

theorem armDrain_evolves (s : State) : Evolves s (armDrain s) := evolves_of_eq rfl rfl

theorem enableRemote_evolves (s : State) : Evolves s (enableRemote s) := by
  rw [enableRemote_eq]
  refine ⟨?_, _, rfl⟩
  cases s.ctl.term <;> rfl

theorem offTransition_evolves (s : State) : Evolves s (offTransition s) := by
  rw [offTransition_eq]
  refine ⟨?_, _, rfl⟩
  dsimp only [fixedPart]
  split <;> rfl

theorem applyMode_evolves (m t f : Byte) (h c fn : Bool) (v : FanSpeed) (s : State) :
    Evolves s (applyMode m t f h c fn v s) := ⟨rfl, _, rfl⟩

theorem applyFanSpeed_evolves (f : Byte) (v : FanSpeed) (s : State) : Evolves s (applyFanSpeed f v s) := ⟨rfl, _, rfl⟩

/-! ### Commands and phase PH1 -/

theorem exec_evolves {i : Instr} {s t : State} (h : exec i s = .next t) : Evolves s t := by
  cases i <;> cases h
  case off => exact offTransition_evolves s
  case ventilate | thermoHeat | thermoCool => exact (enableRemote_evolves s).trans (applyMode_evolves ..)
  case thermoAuto => exact .refl s
  case heatMode | coolMode | fanMode => exact applyMode_evolves ..
  case fanHi | fanMed | fanLo => exact applyFanSpeed_evolves ..
  case damperPercent n =>
    split
    · exact evolves_of_eq rfl rfl
    · exact emit_evolves _ s
  case updateStatus => exact emit_evolves _ s
  case heartbeatAck => exact evolves_of_eq rfl rfl

theorem dispatch_evolves {cw : Word} {s t : State} (h : dispatch cw s = .next t) : Evolves s t := by
  unfold dispatch at h
  split at h
  · split at h
    · exact exec_evolves h
    · cases h; exact emit_evolves _ s
  · cases h; exact emit_evolves _ s

theorem drainWords_evolves {ws : List Word} {s t : State} (h : drainWords ws s = .next t) : Evolves s t := by
  induction ws generalizing s with
  | nil => cases h; exact .refl _
  | cons cw ws ih =>
    obtain ⟨u, hu, ht⟩ := andThen_eq_next.1 h
    have hdequeue : Evolves s { s with ctl.cmdq := s.ctl.cmdq.tail } := evolves_of_eq rfl rfl
    exact hdequeue.trans ((dispatch_evolves hu).trans (ih ht))

theorem phase1_evolves {s t : State} (h : phase1 s = .next t) : Evolves s t := by
  obtain ⟨u, hu, ht⟩ := andThen_eq_next.1 h
  cases ht
  exact (drainWords_evolves hu).setSequencer

/-! ### The other phases -/

/-- Entering a terminal sequence, once its `OFF` transition has run (R702, R902). -/
theorem terminal_evolves (k : Term) (s : State) : Evolves s (armDrain { offTransition s with ctl.term := k }) :=
  (offTransition_evolves s).setSequencer.trans (armDrain_evolves _)

theorem phase0_evolves (s : State) : Evolves s (phase0 s) := by
  unfold phase0
  split
  · exact (terminal_evolves .shutdown s).setSequencer
  · exact (Evolves.refl s).setSequencer

theorem linkLost_evolves (s : State) : Evolves s (linkLost s) :=
  Evolves.trans (t := { raise (.supervisorLinkLost s.hb.cnt.toNat) s with hb.missed := true, flags.malfunction := true })
    ⟨rfl, _, rfl⟩ (terminal_evolves .fatal _)

/-- `HB_CNT` after one more tick (R700). -/
def nextCount (s : State) : Reg := s.hb.cnt.write (s.hb.cnt.toNat + 1)

/-- The comparison that follows the count (R700, R702): past `HB_LOST` the link is lost. -/
def compareCount (s : State) : State := if s.cfg.hbLost < s.hb.cnt.toNat then linkLost s else s

/-- R700, R701: while no terminal sequence is pending a tick counts, with or without a heartbeat, and then compares. -/
theorem watchdogTick_eq {s : State} (h : s.ctl.term = .none) :
    ∃ u, (u = s ∨ u = emit .heartbeat s) ∧ watchdogTick s = compareCount { u with hb.cnt := nextCount s } := by
  by_cases hbeat : (nextCount s).toNat = s.cfg.hbEmit
  · exact ⟨_, .inr rfl, (if_pos h).trans (congrArg compareCount (if_pos hbeat))⟩
  · exact ⟨_, .inl rfl, (if_pos h).trans (congrArg compareCount (if_neg hbeat))⟩

theorem compareCount_evolves (s : State) : Evolves s (compareCount s) := by
  unfold compareCount
  split
  · exact linkLost_evolves s
  · exact .refl s

theorem watchdogTick_evolves (s : State) : Evolves s (watchdogTick s) := by
  by_cases hterm : s.ctl.term = .none
  · obtain ⟨u, hu, heq⟩ := watchdogTick_eq hterm
    have hcount : Evolves s { u with hb.cnt := nextCount s } := by
      obtain rfl | rfl := hu
      · exact evolves_of_eq rfl rfl
      · exact ⟨rfl, _, rfl⟩
    exact heq ▸ hcount.trans (compareCount_evolves _)
  · rw [watchdogTick, if_neg hterm]
    exact .refl s

theorem phase2_evolves (s : State) : Evolves s (phase2 s) := (watchdogTick_evolves s).setSequencer

theorem exchange_evolves (s : State) : Evolves s (exchange s) := by
  obtain ⟨w, rt, h, c, m, fi, q, evs, heq, -⟩ := exchange_frame s
  rw [heq]
  exact ⟨rfl, evs, rfl⟩

theorem damperAdjust_evolves (s : State) : Evolves s (damperAdjust s) := by
  obtain ⟨raw, rep, stop, zone, adj, inp, evs, heq, -⟩ := damperAdjust_frame s
  rw [heq]
  exact ⟨rfl, evs, rfl⟩

theorem releaseLines_evolves (s : State) : Evolves s (releaseLines s) := ⟨rfl, _, releaseLines_trace s⟩

theorem deactivate_evolves (s : State) : Evolves s (deactivate s) := by
  have hrest : Evolves (releaseLines s) (deactivate s) := ⟨rfl, _, rfl⟩
  exact (releaseLines_evolves s).trans hrest

theorem phase3_evolves (s : State) : Evolves s (phase3 s) := by
  have hbranch : Evolves s (branch3 s) := by
    unfold branch3
    split
    · exact (exchange_evolves s).trans (damperAdjust_evolves _)
    · split
      · exact deactivate_evolves s
      · exact emit_evolves _ s
  exact hbranch.setSequencer

theorem phase4_evolves (s : State) : Evolves s (phase4 s) := (Evolves.refl s).setSequencer

theorem finishFatal_evolves (s : State) : Evolves s (finishFatal s) :=
  ((deactivate_evolves s).trans ((emit_evolves .restartNotice _).trans (emit_evolves .fatalRestart _))).setSequencer

theorem finishShutdown_evolves (s : State) : Evolves s (finishShutdown s) :=
  ((releaseLines_evolves s).trans ((emit_evolves (.close .sensor) _).trans
    ((emit_evolves (.close .serial) _).trans (emit_evolves .exit _)))).setSequencer

theorem endDrain_evolves (s : State) : Evolves s (endDrain s) := by
  have hdown : Evolves s { s with flags.remoteOperation := false } := evolves_of_eq rfl rfl
  unfold endDrain
  cases s.ctl.term with
  | none => exact hdown
  | fatal => exact hdown.trans (finishFatal_evolves _)
  | shutdown => exact hdown.trans (finishShutdown_evolves _)

theorem phase5_evolves (s : State) : Evolves s (phase5 s) := by
  have hcount : Evolves s { s with ctl.drainCnt := s.ctl.drainCnt.write (s.ctl.drainCnt.toNat - 1) } := evolves_of_eq rfl rfl
  have hdrain : Evolves s (drainStep s) := by
    unfold drainStep
    split
    · dsimp only
      split
      · exact hcount.trans (endDrain_evolves _)
      · exact hcount
    · exact .refl s
  exact hdrain.setSequencer

/-! ### A cycle, the reset calibration, a step -/

theorem afterPhase3_evolves (s : State) : Evolves s (phase5 (phase4 (phase3 s))) :=
  (phase3_evolves s).trans ((phase4_evolves _).trans (phase5_evolves _))

theorem afterCommands_evolves (s : State) : Evolves s (afterCommands s) :=
  (phase2_evolves s).trans (afterPhase3_evolves _)

theorem commandsThenRest_evolves {s t : State} (h : andThen (phase1 s) (fun u => .next (afterCommands u)) = .next t) :
    Evolves s t := by
  obtain ⟨u, hu, ht⟩ := andThen_eq_next.1 h
  cases ht
  exact (phase1_evolves hu).trans (afterCommands_evolves u)

/-- A cycle evolves the state from whatever phase it stands in (notes/assumptions/3.md). -/
theorem cycle_evolves {s t : State} (h : cycle s = .next t) : Evolves s t := by
  unfold cycle at h
  split at h
  case h_1 =>
    split at h
    · cases h; exact .refl s
    · exact (phase0_evolves s).trans (commandsThenRest_evolves h)
  case h_2 => exact commandsThenRest_evolves h
  case h_3 => cases h; exact afterCommands_evolves s
  case h_4 => cases h; exact afterPhase3_evolves s
  case h_5 => cases h; exact (phase4_evolves s).trans (phase5_evolves _)
  case h_6 => cases h; exact phase5_evolves s

theorem finishReset_evolves (s : State) : Evolves s (finishReset s) := by
  have hnight : Evolves s (calibrateNight s) := by rw [calibrateNight_eq]; exact ⟨rfl, _, rfl⟩
  have hday : Evolves (calibrateNight s) (calibrate s) := by
    rw [calibrate, calibrateDay_eq]; exact ⟨rfl, _, List.append_assoc _ _ _⟩
  exact (hnight.trans hday).setSequencer

/-- A step that answers a next state ran under a legal configuration (R9), and was the reset calibration or a cycle. -/
theorem step_eq_next {s t : State} (h : step s = .next t) :
    (s.ctl.resetPending = true ∧ t = finishReset s) ∨ (s.ctl.resetPending = false ∧ cycle s = .next t) := by
  cases hw : s.cfg.wf with
  | false => rw [step_of_not_wf hw] at h; cases h
  | true =>
    cases hr : s.ctl.resetPending with
    | true => rw [step_of_resetPending hw hr] at h; cases h; exact .inl ⟨rfl, rfl⟩
    | false => rw [step_of_not_resetPending hw hr] at h; exact .inr ⟨rfl, h⟩

theorem step_evolves {s t : State} (h : step s = .next t) : Evolves s t := by
  obtain ⟨-, rfl⟩ | ⟨-, hc⟩ := step_eq_next h
  · exact finishReset_evolves s
  · exact cycle_evolves hc

/-- A reset gives every register the width of its table (R104, R105, R109, R1000). -/
theorem resetWith_sized (c : Cfg) : Sized (State.resetWith c) := by constructor <;> rfl

/-- Settles O59: a step evolves the state, phase by phase. -/
theorem stepKeepsConfigAndTrace : Obligations.StepKeepsConfigAndTrace :=
  fun _ _ h => ⟨(step_evolves h).cfg, (step_evolves h).trace⟩

/-- Settles O60: the widths are part of what every command and every step keeps. -/
theorem registersAreFixedWidth : Obligations.RegistersAreFixedWidth :=
  ⟨fun _ _ _ h => (exec_evolves h).sameWidths, fun _ _ h => (step_evolves h).sameWidths, resetWith_sized,
    fun r n => ⟨r.width_write n, r.toNat_write n⟩,
    fun c => ⟨c.lt_hbCntWidth le_rfl, c.lt_drainCntWidth le_rfl, fun h => by rw [Cfg.hbCntWidth, h]; decide⟩⟩

end Sys2Proof.Machine
end

section
/-! PROOFS. The invariant (10_state.md section 6, R113): a reset establishes it, and every step keeps it.  Inside a cycle
it is kept operation by operation, as `MidCycle`; the end of a drain is where a cycle can halt. -/

namespace Sys2Proof.Machine

/-! ### What a legal configuration gives -/

theorem offDrainCycles_pos {c : Cfg} (h : c.wf = true) : 0 < c.offDrainCycles := by
  simp only [Cfg.wf, Cfg.countsPositive, Bool.and_eq_true, decide_eq_true_eq] at h
  exact h.1.1

theorem reqInit_le {c : Cfg} (h : c.wf = true) : c.reqInit ≤ 100 := by
  simp only [Cfg.wf, Cfg.reqInitLegal, Bool.and_eq_true, decide_eq_true_eq] at h
  exact h.2.2.2.1

theorem quantLegal_of_wf {c : Cfg} (h : c.wf = true) : c.quantLegal = true := by
  simp only [Cfg.wf, Bool.and_eq_true] at h
  exact h.2.2.2.2.2.2.2.1

/-- 100 is a legal value of `REPORTED` (R104). -/
theorem hundred_mod_quantStep {c : Cfg} (h : c.wf = true) : 100 % c.quantStep = 0 := by
  have hq := quantLegal_of_wf h
  simp only [Cfg.quantLegal, Bool.and_eq_true, decide_eq_true_eq] at hq
  exact hq.1.2

/-- Storing a legal percentage in 7 bits keeps it legal (R104). -/
theorem percent_toNat_le {n : Nat} (h : n ≤ 100) : (BitVec.ofNat 7 n).toNat ≤ 100 := by
  rw [BitVec.toNat_ofNat]
  exact (Nat.mod_le _ _).trans h

/-- Once `SEQ` has advanced its low nibble is `F` (R303, R408). -/
theorem seqNext_low_nibble (c : Cfg) (w : Word) : (seqNext c w).extractLsb' 0 4 = 0xF#4 := by
  have hseqOf : ∀ b n, (seqOf b n).extractLsb' 0 4 = 0xF#4 := fun b n => by
    ext i hi
    simp only [seqOf, BitVec.getElem_extractLsb', BitVec.getLsbD_append]
    simp [hi, show i < 8 by omega]
  unfold seqNext
  split
  · exact hseqOf _ _
  · split <;> exact hseqOf _ _

/-! ### Reset -/

/-- R112, R1000: the reset state meets the invariant under every legal configuration. -/
theorem resetWith_inv {c : Cfg} (h : c.wf = true) : (State.resetWith c).Inv where
  cfgWf := h
  phase := rfl
  fanOneHot := Nat.zero_le _
  modeOneHot := Nat.zero_le _
  req := percent_toNat_le (reqInit_le h)
  reported := ⟨Nat.zero_mod _, Nat.zero_le _⟩
  sized := resetWith_sized c
  hbCnt := by simp [State.resetWith]
  hbRunning := by simp [State.resetWith]
  drainCnt := by simp [State.resetWith]
  halted := nofun
  draining := fun h => absurd rfl h
  drainRemote := by simp [State.resetWith]
  cmdq := Nat.zero_le _
  seq := .inr rfl
  missed := by simp [State.resetWith]
  malfunction := nofun
  remoteLines := nofun
  idleLines := fun _ _ => ⟨rfl, rfl⟩
  haltedLines := nofun
  booting := fun _ => ⟨rfl, rfl, rfl⟩

/-- Settles O57, from the reset state of any legal configuration; TC is one. -/
theorem resetMeetsInvariant : Obligations.ResetMeetsInvariant :=
  ⟨fun _ => resetWith_inv, resetWith_inv (by decide)⟩

/-! ### The invariant inside a cycle -/

/-- The invariant in the middle of a cycle of a machine that runs: all of it but the phase. -/
structure MidCycle (s : State) : Prop where
  inv : ({ s with ctl.phase := .ph0 } : State).Inv
  running : s.ctl.halted = false
  booted : s.ctl.resetPending = false

section
variable {s t : State}

theorem State.Inv.midCycle (h : s.Inv) (hrun : s.ctl.halted = false) (hboot : s.ctl.resetPending = false) :
    MidCycle s :=
  ⟨{ h with phase := rfl, sized := { h.sized with } }, hrun, hboot⟩

theorem MidCycle.not_halted (h : MidCycle s) : ¬ s.ctl.halted = true := by simp [h.running]

theorem MidCycle.not_booting (h : MidCycle s) : ¬ s.ctl.resetPending = true := by simp [h.booted]

/-- A phase ends by writing `PHASE` (R108). -/
theorem setPhase_midCycle (p : Phase) (h : MidCycle s) : MidCycle { s with ctl.phase := p } :=
  ⟨h.inv, h.running, h.booted⟩

/-- The invariant does not speak of the outbound fields, `RX_TEMP`, the inputs and the trace. -/
theorem unconstrained_midCycle (o : Outbound) (r : Byte) (i : InputState) (tr : List Event) (h : MidCycle s) :
    MidCycle { s with out := o, rxTemp := r, inp := i, trace := tr } :=
  ⟨{ h.inv with sized := { h.inv.sized with } }, h.running, h.booted⟩

theorem emit_midCycle (e : Event) (h : MidCycle s) : MidCycle (emit e s) :=
  unconstrained_midCycle s.out s.rxTemp s.inp _ h

theorem setModeFlags_midCycle {a b c : Bool} (hone : a.toNat + b.toNat + c.toNat ≤ 1) (h : MidCycle s) :
    MidCycle (setModeFlags a b c s) :=
  ⟨{ h.inv with modeOneHot := hone, sized := { h.inv.sized with } }, h.running, h.booted⟩

/-- At most one fan-speed flag is set for any speed (R618). -/
theorem fanFlags_oneHot (v : FanSpeed) :
    (decide (v = .hi)).toNat + (decide (v = .med)).toNat + (decide (v = .lo)).toNat ≤ 1 := by
  cases v <;> decide

theorem setFanFlags_midCycle (v : FanSpeed) (h : MidCycle s) : MidCycle (setFanFlags v s) :=
  ⟨{ h.inv with fanOneHot := fanFlags_oneHot v, sized := { h.inv.sized with } }, h.running, h.booted⟩

/-- `DRAIN_CNT` may take any legal value that fits what is being drained (R109, R113, R808). -/
theorem writeDrain_midCycle {n : Nat} (hle : n ≤ s.cfg.offDrainCycles) (hterm : s.ctl.term ≠ .none → 0 < n)
    (hremote : s.ctl.term = .none → 0 < n → s.flags.remoteOperation = true) (h : MidCycle s) :
    MidCycle { s with ctl.drainCnt := s.ctl.drainCnt.write n } := by
  have hn : (s.ctl.drainCnt.write n).toNat = n := h.inv.sized.drainCnt_write hle
  exact ⟨{ h.inv with
    sized := { h.inv.sized with }
    drainCnt := hn.trans_le hle
    draining := fun ht _ => (hterm ht).trans_eq hn.symm
    drainRemote := fun ht hpos => hremote ht (hpos.trans_eq hn) }, h.running, h.booted⟩

theorem armDrain_midCycle (hremote : s.ctl.term = .none → s.flags.remoteOperation = true) (h : MidCycle s) :
    MidCycle (armDrain s) :=
  writeDrain_midCycle le_rfl (fun _ => offDrainCycles_pos h.inv.cfgWf) (fun ht _ => hremote ht) h

/-! ### Commands and phase PH1 -/

theorem applyFanSpeed_midCycle (f : Byte) (v : FanSpeed) (h : MidCycle s) : MidCycle (applyFanSpeed f v s) :=
  emit_midCycle _ (setFanFlags_midCycle v (unconstrained_midCycle _ s.rxTemp s.inp s.trace h))

theorem applyMode_midCycle (m t f : Byte) {a b c : Bool} (hone : a.toNat + b.toNat + c.toNat ≤ 1) (v : FanSpeed)
    (h : MidCycle s) : MidCycle (applyMode m t f a b c v s) :=
  emit_midCycle _ (setFanFlags_midCycle v (setModeFlags_midCycle hone
    (unconstrained_midCycle _ s.rxTemp s.inp s.trace h)))

theorem offTransition_midCycle (h : MidCycle s) : MidCycle (offTransition s) := by
  have hoff : MidCycle (setFanFlags .none (setModeFlags false false false { s with out.mode := s.cfg.modeOff })) :=
    setFanFlags_midCycle .none (setModeFlags_midCycle (by decide) (unconstrained_midCycle _ s.rxTemp s.inp s.trace h))
  refine emit_midCycle _ ?_
  dsimp only
  split
  case isTrue hdrain => exact armDrain_midCycle (fun _ => hdrain.1) hoff
  case isFalse => exact hoff

/-- R615: the flag and the two enable lines change together. -/
theorem connect_midCycle (h : MidCycle s) :
    MidCycle { emit (.wait .remoteSettle) (writeLine .damperEn true (writeLine .remoteEn true s)) with
      flags.remoteOperation := true } :=
  ⟨{ h.inv with
    sized := { h.inv.sized with }
    drainRemote := fun _ _ => rfl
    remoteLines := fun _ => ⟨rfl, rfl⟩
    idleLines := nofun
    haltedLines := fun hh => absurd hh h.not_halted
    booting := fun hb => absurd hb h.not_booting }, h.running, h.booted⟩

/-- The cancellation with which `EnableRemote` begins (R615). -/
def cancelDrain (s : State) : State :=
  if s.ctl.term = .none ∧ 0 < s.ctl.drainCnt.toNat then { s with ctl.drainCnt := s.ctl.drainCnt.write 0 } else s

theorem cancelDrain_midCycle (h : MidCycle s) : MidCycle (cancelDrain s) := by
  unfold cancelDrain
  split
  case isTrue hdrain => exact writeDrain_midCycle (Nat.zero_le _) (absurd hdrain.1) (fun _ => nofun) h
  case isFalse => exact h

theorem enableRemote_midCycle (h : MidCycle s) : MidCycle (enableRemote s) := by
  change MidCycle (if (cancelDrain s).flags.remoteOperation then cancelDrain s else _)
  split
  · exact cancelDrain_midCycle h
  · exact connect_midCycle (cancelDrain_midCycle h)

/-- R703: an acknowledgment comes while no terminal sequence is pending, so `MISSED` is false already. -/
theorem watchdogAck_midCycle (hterm : s.ctl.term = .none) (h : MidCycle s) : MidCycle (watchdogAck s) :=
  ⟨{ h.inv with
    sized := { h.inv.sized with }
    hbCnt := by simp [watchdogAck]
    hbRunning := by simp [watchdogAck]
    missed := by simp [watchdogAck, hterm]
    malfunction := nofun }, h.running, h.booted⟩

theorem setReq_midCycle {n : Nat} (hn : n ≤ 100) (h : MidCycle s) :
    MidCycle { s with damper.req := BitVec.ofNat 7 n } :=
  ⟨{ h.inv with req := percent_toNat_le hn, sized := { h.inv.sized with } }, h.running, h.booted⟩

theorem exec_midCycle {i : Instr} (hterm : s.ctl.term = .none) (h : MidCycle s) (he : exec i s = .next t) :
    MidCycle t := by
  cases i <;> cases he
  case off => exact offTransition_midCycle h
  case ventilate | thermoHeat | thermoCool => exact applyMode_midCycle _ _ _ (by decide) _ (enableRemote_midCycle h)
  case thermoAuto => exact h
  case heatMode | coolMode | fanMode => exact applyMode_midCycle _ _ _ (by decide) _ h
  case fanHi | fanMed | fanLo => exact applyFanSpeed_midCycle _ _ h
  case damperPercent n =>
    split
    case isTrue hn => exact setReq_midCycle (of_decide_eq_true hn) h
    case isFalse => exact emit_midCycle _ h
  case updateStatus => exact emit_midCycle _ h
  case heartbeatAck => exact watchdogAck_midCycle hterm h

theorem dispatch_midCycle {cw : Word} (h : MidCycle s) (hd : dispatch cw s = .next t) : MidCycle t := by
  unfold dispatch at hd
  split at hd
  case isTrue hterm =>
    split at hd
    · exact exec_midCycle hterm h hd
    · cases hd; exact emit_midCycle _ h
  case isFalse => cases hd; exact emit_midCycle _ h

theorem dequeue_midCycle (h : MidCycle s) : MidCycle { s with ctl.cmdq := s.ctl.cmdq.tail } :=
  ⟨{ h.inv with
    sized := { h.inv.sized with }
    cmdq := (List.length_tail.trans_le (Nat.sub_le _ _)).trans h.inv.cmdq }, h.running, h.booted⟩

theorem drainWords_midCycle {ws : List Word} (h : MidCycle s) (hd : drainWords ws s = .next t) : MidCycle t := by
  induction ws generalizing s with
  | nil => cases hd; exact h
  | cons cw ws ih =>
    obtain ⟨u, hu, ht⟩ := andThen_eq_next.1 hd
    exact ih (dispatch_midCycle (dequeue_midCycle h) hu) ht

theorem phase1_midCycle (h : MidCycle s) (hp : phase1 s = .next t) : MidCycle t := by
  obtain ⟨u, hu, ht⟩ := andThen_eq_next.1 hp
  cases ht
  exact setPhase_midCycle .ph2 (drainWords_midCycle h hu)

/-! ### Entering a terminal sequence: phases PH0 and PH2 -/

/-- The `OFF` transition with which a terminal sequence begins, the drain armed (R702, R902), whole. -/
theorem enterTerminal_eq (k : Term) (u : State) :
    armDrain { offTransition u with ctl.term := k } = { u with
      out.mode := u.cfg.modeOff
      flags := { u.flags with heat := false, cool := false, fanOn := false, fanHi := false, fanMed := false, fanLo := false }
      ctl := { u.ctl with drainCnt := u.ctl.drainCnt.write u.cfg.offDrainCycles, term := k }
      trace := (offTransition u).trace } := by
  rw [offTransition_eq]
  by_cases hdrain : u.flags.remoteOperation = true ∧ u.ctl.drainCnt.toNat = 0 <;> simp only [hdrain] <;> rfl

/-- Entering a terminal sequence `k` (R702, R902) with the heartbeat registers at `b` and `malfunction` at `f`.  The count
may have passed `HB_LOST` here, and `MISSED` must go with the fatal sequence. -/
theorem enterTerminal_midCycle {k : Term} {b : HeartbeatState} {f : Bool} (hk : k ≠ .none)
    (hwidth : b.cnt.width = s.hb.cnt.width) (hcnt : b.cnt.toNat ≤ s.cfg.hbLost + 1)
    (hmissed : b.missed = true ↔ k = .fatal) (hmalf : b.missed = true → f = true) (h : MidCycle s) :
    MidCycle (armDrain { offTransition { s with hb := b, flags.malfunction := f } with ctl.term := k }) := by
  have hn : (s.ctl.drainCnt.write s.cfg.offDrainCycles).toNat = s.cfg.offDrainCycles :=
    h.inv.sized.drainCnt_write le_rfl
  rw [enterTerminal_eq]
  exact ⟨{ h.inv with
    fanOneHot := Nat.zero_le _
    modeOneHot := Nat.zero_le _
    sized := { h.inv.sized with hbCnt := hwidth.trans h.inv.sized.hbCnt }
    hbCnt := hcnt
    hbRunning := fun ht => absurd ht hk
    drainCnt := hn.le
    halted := fun _ => hk
    draining := fun _ _ => (offDrainCycles_pos h.inv.cfgWf).trans_eq hn.symm
    drainRemote := fun ht => absurd ht hk
    missed := hmissed
    malfunction := hmalf }, h.running, h.booted⟩

theorem shutdown_midCycle (hterm : s.ctl.term = .none) (h : MidCycle s) : MidCycle (shutdown s) :=
  enterTerminal_midCycle (k := .shutdown) (b := s.hb) (f := s.flags.malfunction) nofun rfl h.inv.hbCnt
    (by simpa [hterm] using h.inv.missed) h.inv.malfunction h

theorem linkLost_midCycle {c : Reg} (hwidth : c.width = s.hb.cnt.width) (hcnt : c.toNat ≤ s.cfg.hbLost + 1)
    (h : MidCycle s) : MidCycle (linkLost { s with hb.cnt := c }) :=
  enterTerminal_midCycle (s := raise (.supervisorLinkLost c.toNat) s) (k := .fatal) (b := ⟨c, true⟩) (f := true) nofun
    hwidth hcnt (by simp) (fun _ => rfl) (emit_midCycle _ h)

theorem phase0_midCycle (h : MidCycle s) : MidCycle (phase0 s) := by
  refine setPhase_midCycle .ph1 ?_
  split
  case isTrue hreq => exact shutdown_midCycle hreq.2 h
  case isFalse => exact h

theorem writeCount_midCycle {c : Reg} (hwidth : c.width = s.hb.cnt.width) (hcnt : c.toNat ≤ s.cfg.hbLost)
    (h : MidCycle s) : MidCycle { s with hb.cnt := c } :=
  ⟨{ h.inv with
    sized := { h.inv.sized with hbCnt := hwidth.trans h.inv.sized.hbCnt }
    hbCnt := hcnt.trans (Nat.le_succ _)
    hbRunning := fun _ => hcnt }, h.running, h.booted⟩

theorem compareCount_midCycle {c : Reg} (hwidth : c.width = s.hb.cnt.width) (hcnt : c.toNat ≤ s.cfg.hbLost + 1)
    (h : MidCycle s) : MidCycle (compareCount { s with hb.cnt := c }) := by
  unfold compareCount
  split
  case isTrue => exact linkLost_midCycle hwidth hcnt h
  case isFalse hle => exact writeCount_midCycle hwidth (not_lt.1 hle) h

theorem watchdogTick_midCycle (h : MidCycle s) : MidCycle (watchdogTick s) := by
  by_cases hterm : s.ctl.term = .none
  · have hcnt : (nextCount s).toNat ≤ s.cfg.hbLost + 1 := by
      have hle : s.hb.cnt.toNat + 1 ≤ s.cfg.hbLost + 1 := Nat.succ_le_succ (h.inv.hbRunning hterm)
      exact (h.inv.sized.hbCnt_write hle).trans_le hle
    obtain ⟨u, rfl | rfl, heq⟩ := watchdogTick_eq hterm
    · exact heq ▸ compareCount_midCycle rfl hcnt h
    · exact heq ▸ compareCount_midCycle rfl hcnt (emit_midCycle .heartbeat h)
  · rw [watchdogTick, if_neg hterm]
    exact h

theorem phase2_midCycle (h : MidCycle s) : MidCycle (phase2 s) := setPhase_midCycle .ph3 (watchdogTick_midCycle h)

/-! ### Phases PH3 and PH4 -/

theorem exchange_midCycle (h : MidCycle s) : MidCycle (exchange s) := by
  obtain ⟨w, rt, ht, co, m, fi, q, evs, heq, hmalf, hseq⟩ := exchange_frame s
  rw [heq]
  exact ⟨{ h.inv with
    sized := { h.inv.sized with }
    seq := by
      obtain rfl | ⟨rfl, -⟩ := hseq
      · exact h.inv.seq
      · exact .inl (seqNext_low_nibble _ _)
    malfunction := fun hm => hmalf hm (h.inv.malfunction hm) }, h.running, h.booted⟩

theorem damperAdjust_midCycle (h : MidCycle s) : MidCycle (damperAdjust s) := by
  obtain ⟨raw, rep, stop, zone, adj, inp, evs, heq, -, hrep, -⟩ := damperAdjust_frame s
  rw [heq]
  exact ⟨{ h.inv with
    sized := { h.inv.sized with }
    reported := by
      obtain rfl | hlegal := hrep
      · exact h.inv.reported
      · exact hlegal (quantLegal_of_wf h.inv.cfgWf)
    remoteLines := h.inv.remoteLines
    idleLines := h.inv.idleLines
    haltedLines := fun hh => absurd hh h.not_halted }, h.running, h.booted⟩

/-- The release of the lines (R807, R810), whole. -/
theorem releaseLines_eq (s : State) :
    releaseLines s = { s with damper.adjusting := false, lines := releasedLines, trace := s.trace ++ releaseEvents } := by
  simp [releaseLines, writeLine, emit, releasedLines, releaseEvents]

/-- `Deactivate` (R807), whole but for its events. -/
theorem deactivate_eq (s : State) :
    deactivate s = { s with
      flags.malfunction := s.hb.missed
      hb.cnt := s.hb.cnt.write 0
      damper.adjusting := false
      lines := releasedLines
      trace := (deactivate s).trace } := by
  rw [deactivate, releaseLines_eq]; rfl

/-- R807: a deactivation outside remote operation; `malfunction` takes `MISSED`. -/
theorem deactivate_midCycle (hremote : s.flags.remoteOperation = false) (h : MidCycle s) : MidCycle (deactivate s) := by
  rw [deactivate_eq]
  exact ⟨{ h.inv with
    sized := { h.inv.sized with }
    hbCnt := by simp
    hbRunning := by simp
    malfunction := id
    remoteLines := fun hr => absurd (hr.symm.trans hremote) (by decide)
    idleLines := fun _ _ => ⟨rfl, rfl⟩
    haltedLines := fun hh => absurd hh h.not_halted }, h.running, h.booted⟩

/-- The enable lines are inactive unless remote operation holds: so it is once PH3 has seen it inactive (R807). -/
def LinesFollow (s : State) : Prop :=
  s.flags.remoteOperation = false → s.lines.remoteEn = false ∧ s.lines.damperEn = false

theorem exchangeAdjust_remoteOperation (s : State) :
    (damperAdjust (exchange s)).flags.remoteOperation = s.flags.remoteOperation := by
  obtain ⟨_, _, _, _, _, _, _, heq, -⟩ := damperAdjust_frame (exchange s)
  obtain ⟨_, _, _, _, _, _, _, _, heq', -⟩ := exchange_frame s
  rw [heq]
  show (exchange s).flags.remoteOperation = _
  rw [heq']

theorem branch3_midCycle (h : MidCycle s) : MidCycle (branch3 s) ∧ LinesFollow (branch3 s) := by
  unfold branch3
  split
  case isTrue hremote =>
    refine ⟨damperAdjust_midCycle (exchange_midCycle h), fun hoff => ?_⟩
    rw [exchangeAdjust_remoteOperation, hremote] at hoff
    cases hoff
  case isFalse hremote =>
    have hoff : s.flags.remoteOperation = false := Bool.eq_false_of_not_eq_true hremote
    split
    case isTrue => exact ⟨deactivate_midCycle hoff h, fun _ => ⟨rfl, rfl⟩⟩
    case isFalse hprev =>
      exact ⟨emit_midCycle _ h, fun _ => h.inv.idleLines hoff (Bool.eq_false_of_not_eq_true hprev)⟩

theorem phase4_midCycle (hlines : LinesFollow s) (h : MidCycle s) : MidCycle (phase4 s) :=
  ⟨{ h.inv with
    sized := { h.inv.sized with }
    idleLines := fun hoff _ => hlines hoff
    booting := fun hb => absurd hb h.not_booting }, h.running, h.booted⟩

/-! ### Phase PH5: the end of a drain -/

/-- R808: an ordinary drain ends remote operation; `REMOTE_PREV` still says that it was on. -/
theorem tearDown_midCycle (hterm : s.ctl.term = .none) (hprev : s.ctl.remotePrev = s.flags.remoteOperation)
    (h : MidCycle s) : MidCycle { s with flags.remoteOperation := false, ctl.drainCnt := s.ctl.drainCnt.write 0 } :=
  ⟨{ h.inv with
    sized := { h.inv.sized with }
    drainCnt := by simp
    draining := fun ht => absurd hterm ht
    drainRemote := by simp
    remoteLines := nofun
    idleLines := fun _ hp => h.inv.idleLines (hprev.symm.trans hp) hp
    haltedLines := fun hh => absurd hh h.not_halted
    booting := fun hb => absurd hb h.not_booting }, h.running, h.booted⟩

/-- R809, R810: the invariant where a terminal sequence halts, the drain at its end and the lines released.  The count and
`malfunction` are the fatal sequence's to write. -/
theorem halt_inv {c : Reg} {f : Bool} {tr : List Event} (hterm : s.ctl.term ≠ .none)
    (hwidth : c.width = s.hb.cnt.width) (hcnt : c.toNat ≤ s.cfg.hbLost + 1) (hmalf : s.hb.missed = true → f = true)
    (h : MidCycle s) : State.Inv { s with
      flags := { s.flags with remoteOperation := false, malfunction := f }
      hb.cnt := c
      damper.adjusting := false
      lines := releasedLines
      ctl := { s.ctl with drainCnt := s.ctl.drainCnt.write 0, halted := true, phase := .ph0 }
      trace := tr } :=
  { h.inv with
    sized := { h.inv.sized with hbCnt := hwidth.trans h.inv.sized.hbCnt }
    hbCnt := hcnt
    hbRunning := fun ht => absurd ht hterm
    drainCnt := by simp
    halted := fun _ => hterm
    draining := fun _ => nofun
    drainRemote := fun ht => absurd ht hterm
    malfunction := hmalf
    remoteLines := nofun
    idleLines := fun _ _ => ⟨rfl, rfl⟩
    haltedLines := fun _ => ⟨rfl, rfl, rfl, rfl, rfl, rfl⟩
    booting := fun hb => absurd hb h.not_booting }

/-- `FinishFatal` (R809), whole but for its events. -/
theorem finishFatal_eq (s : State) :
    finishFatal s = { s with
      flags.malfunction := s.hb.missed
      hb.cnt := s.hb.cnt.write 0
      damper.adjusting := false
      lines := releasedLines
      ctl.halted := true
      trace := (finishFatal s).trace } := by
  rw [finishFatal, deactivate_eq]; rfl

/-- `FinishShutdown` (R810), whole but for its events. -/
theorem finishShutdown_eq (s : State) :
    finishShutdown s = { s with
      damper.adjusting := false
      lines := releasedLines
      ctl.halted := true
      trace := (finishShutdown s).trace } := by
  rw [finishShutdown, releaseLines_eq]; rfl

/-- The end of a drain, its count at 0 (R808 to R810). -/
theorem endDrain_inv (hprev : s.ctl.remotePrev = s.flags.remoteOperation) (h : MidCycle s) :
    State.Inv { endDrain { s with ctl.drainCnt := s.ctl.drainCnt.write 0 } with ctl.phase := .ph0 } := by
  unfold endDrain
  split
  case h_1 hterm => exact (tearDown_midCycle (s := s) hterm hprev h).inv
  case h_2 hterm =>
    rw [finishFatal_eq]
    exact halt_inv (s := s) (c := s.hb.cnt.write 0) (f := s.hb.missed) (ne_of_eq_of_ne hterm nofun) rfl (by simp) id h
  case h_3 hterm =>
    rw [finishShutdown_eq]
    exact halt_inv (s := s) (c := s.hb.cnt) (f := s.flags.malfunction) (ne_of_eq_of_ne hterm nofun) rfl h.inv.hbCnt
      h.inv.malfunction h

/-- R808: a drain that goes on keeps its terminal sequence pending; one that ends may halt. -/
theorem phase5_inv (hprev : s.ctl.remotePrev = s.flags.remoteOperation) (h : MidCycle s) : (phase5 s).Inv := by
  unfold phase5 drainStep
  split
  case isFalse => exact h.inv
  case isTrue hpos =>
    have hn : (s.ctl.drainCnt.write (s.ctl.drainCnt.toNat - 1)).toNat = s.ctl.drainCnt.toNat - 1 := Reg.toNat_write_pred _
    dsimp only
    split
    case isTrue hzero => rw [hn.symm.trans hzero]; exact endDrain_inv hprev h
    case isFalse hleft =>
      have hle : s.ctl.drainCnt.toNat - 1 ≤ s.cfg.offDrainCycles := (Nat.sub_le _ _).trans h.inv.drainCnt
      exact (writeDrain_midCycle hle (fun _ => Nat.pos_of_ne_zero (hn ▸ hleft))
        (fun ht _ => h.inv.drainRemote ht hpos) h).inv

/-! ### A step -/

theorem afterCommands_inv (h : MidCycle s) : (afterCommands s).Inv := by
  obtain ⟨hmid, hlines⟩ := branch3_midCycle (phase2_midCycle h)
  have hph3 : MidCycle (phase3 (phase2 s)) := setPhase_midCycle .ph4 hmid
  exact phase5_inv rfl (phase4_midCycle hlines hph3)

theorem cycle_inv (h : s.Inv) (hboot : s.ctl.resetPending = false) (hc : cycle s = .next t) : t.Inv := by
  simp only [cycle, h.phase] at hc
  split at hc
  case isTrue => cases hc; exact h
  case isFalse hrun =>
    obtain ⟨u, hu, ht⟩ := andThen_eq_next.1 hc
    cases ht
    have hmid : MidCycle s := h.midCycle (Bool.eq_false_of_not_eq_true hrun) hboot
    exact afterCommands_inv (phase1_midCycle (phase0_midCycle hmid) hu)

/-- R509, R1000: the reset calibration leaves a legal percentage and inactive enable lines. -/
theorem finishReset_inv (h : s.Inv) (hr : s.ctl.resetPending = true) : (finishReset s).Inv := by
  obtain ⟨hrun, hremote, hprev⟩ := h.booting hr
  rw [finishReset, calibrate, calibrateDay_eq, calibrateNight_eq]
  exact { h with
    reported := ⟨hundred_mod_quantStep h.cfgWf, le_rfl⟩
    sized := { h.sized with }
    remoteLines := fun hon => absurd (hon.symm.trans hremote) (by decide)
    idleLines := fun _ _ => ⟨(h.idleLines hremote hprev).1, rfl⟩
    haltedLines := fun hh => absurd (hh.symm.trans hrun) (by decide)
    booting := nofun }

end

/-- Settles O56: the reset calibration keeps the invariant, and so does a cycle, phase by phase. -/
theorem stepKeepsInvariant : Obligations.StepKeepsInvariant := by
  intro s t hinv hstep
  obtain ⟨hr, rfl⟩ | ⟨hr, hc⟩ := step_eq_next hstep
  · exact finishReset_inv hinv hr
  · exact cycle_inv hinv hr hc

end Sys2Proof.Machine
end

section
/-! PROOFS. The command port and the host's moves (20_memory.md R201, R214): what an enqueue does on either side of the
queue's depth, and that no move of the world outside ACC breaks the invariant. -/

namespace Sys2Proof.Machine

section
variable {cw : Word} {s : State}

/-! ### The command port -/

/-- R201: while the queue is not full the word goes to its end. -/
theorem enqueue_of_lt (h : s.ctl.cmdq.length < s.cfg.cmdqDepth) :
    enqueue cw s = { s with ctl.cmdq := s.ctl.cmdq ++ [cw] } := by
  simp [enqueue, cmdReady, h]

/-- R201: a full queue takes no word. -/
theorem enqueue_of_le (h : s.cfg.cmdqDepth ≤ s.ctl.cmdq.length) : enqueue cw s = s := by
  simp [enqueue, cmdReady, h]

end

/-- Settles O52, one clause for each side of `CMDQ_DEPTH`. -/
theorem enqueueBackpressure : Obligations.EnqueueBackpressure :=
  fun _ _ => ⟨enqueue_of_lt, enqueue_of_le⟩

/-! ### The invariant under the host's moves -/

section
variable {s : State}

/-- R113: the queue's length is the only fact an enqueue touches, and the port bounds it. -/
theorem enqueue_inv (cw : Word) (h : s.Inv) : (enqueue cw s).Inv := by
  obtain hroom | hfull := Nat.lt_or_ge s.ctl.cmdq.length s.cfg.cmdqDepth
  · rw [enqueue_of_lt hroom]
    have hlen : (s.ctl.cmdq ++ [cw]).length ≤ s.cfg.cmdqDepth := by simpa using hroom
    exact { h with cmdq := hlen, sized := { h.sized with } }
  · rwa [enqueue_of_le hfull]

/-- The invariant does not speak of the inputs: the level `SHUTDOWN_REQ` and the two oracles (R207, R208, R902). -/
theorem withInputs_inv (i : InputState) (h : s.Inv) : State.Inv { s with inp := i } :=
  { h with sized := { h.sized with } }

/-- R1000: a reset of the host establishes the invariant afresh; the inputs that it keeps are not constrained. -/
theorem hostReset_inv (h : s.Inv) : (hostReset s).Inv :=
  withInputs_inv s.inp (resetWith_inv h.cfgWf)

end

/-- Settles O58, move by move: a reset, an enqueue, or a write of the inputs. -/
theorem hostMovesKeepInvariant : Obligations.HostMovesKeepInvariant := by
  intro m s h
  cases m with
  | reset => exact hostReset_inv h
  | word cw => exact enqueue_inv cw h
  | command i => exact enqueue_inv (encode i) h
  | shutdown level => exact withInputs_inv _ h
  | rx draws => exact withInputs_inv _ h
  | sense x y => exact withInputs_inv _ h

end Sys2Proof.Machine
end

section
/-! PROOFS. Command words (30_encoding.md R305 to R308, R311): the two bytes of a word, the row of R306 that it selects,
and what `decode` accepts and rejects, said once by rows. -/

namespace Sys2Proof

section
variable {cw : Word} {i : Instr} {e : DecodeReject}

/-! ### The two bytes of a command word (R305) -/

@[simp] theorem cwCode_append (code arg : Byte) : cwCode (code ++ arg) = code := BitVec.extractLsb'_append_eq_left

@[simp] theorem cwArg_append (code arg : Byte) : cwArg (code ++ arg) = arg := BitVec.extractLsb'_append_eq_right

theorem cwCode_append_cwArg (cw : Word) : cwCode cw ++ cwArg cw = cw :=
  (BitVec.extractLsb'_append_extractLsb'_eq_extractLsb' rfl).trans BitVec.extractLsb'_eq_self

@[simp] theorem cwCode_encode (i : Instr) : cwCode (encode i) = i.code := cwCode_append i.code i.arg

@[simp] theorem cwArg_encode (i : Instr) : cwArg (encode i) = i.arg := cwArg_append i.code i.arg

/-- R311: only `DAMPER_PERCENT` writes its argument byte (notes/assumptions/12.md). -/
theorem Instr.arg_eq_zero (h : ∀ n, i ≠ .damperPercent n) : i.arg = 0 := by
  cases i with
  | damperPercent n => exact absurd rfl (h n)
  | _ => rfl

/-! ### The row that a word selects (R306, R307) -/

/-- The word has the instruction's code, and if the instruction takes an operand, its argument byte is that operand. -/
def Selects (cw : Word) (i : Instr) : Prop :=
  cwCode cw = i.code ∧ ∀ n, i = .damperPercent n → n = (cwArg cw).toNat

/-- R307: an operand that is an argument byte fits the word. -/
theorem Selects.wf (h : Selects cw i) : i.wf = true := by
  cases i with
  | damperPercent n => simpa [Instr.wf, h.2 n rfl] using (cwArg cw).isLt
  | _ => rfl

/-- R307: the argument byte of a `DAMPER_PERCENT` word is the one the encoder writes, so the whole word is. -/
theorem Selects.encode_damperPercent {n : Nat} (h : Selects cw (.damperPercent n)) :
    encode (.damperPercent n) = cw := by
  obtain ⟨hcode, hoperand⟩ := h
  have harg : Instr.arg (.damperPercent n) = cwArg cw := by simp [Instr.arg, hoperand n rfl]
  rw [encode, harg, ← hcode, cwCode_append_cwArg]

/-- R311: the word an assembler writes selects its instruction; the operand is not cut because it fits the byte. -/
theorem selects_encode (h : i.wf = true) : Selects (encode i) i := by
  refine ⟨cwCode_encode i, ?_⟩
  rintro n rfl
  have hn : n < 256 := by simpa [Instr.wf] using h
  simp [Instr.arg, Nat.mod_eq_of_lt hn]

/-! ### What `decode` does (R306, R308) -/

/-- Every word selects a row, which is what it decodes to, or is an unknown service. -/
theorem decode_cases (cw : Word) :
    (∃ i, Selects cw i ∧ decode cw = .ok i) ∨
      (0x0E ≤ (cwCode cw).toNat ∧ decode cw = .error (.unknownService (cwCode cw))) := by
  unfold decode
  split
  case h_15 => exact .inr ⟨by grind, rfl⟩
  all_goals
    rename_i hrow
    refine .inl ⟨_, ?_, rfl⟩
    exact ⟨BitVec.eq_of_toNat_eq hrow, by simp⟩

theorem decode_of_selects (h : Selects cw i) : decode cw = .ok i := by
  obtain ⟨hcode, hoperand⟩ := h
  cases i with
  | damperPercent n => simp [decode, hcode, Instr.code, ← hoperand n rfl]
  | _ => simp [decode, hcode, Instr.code]

theorem Selects.code_lt (h : Selects cw i) : (cwCode cw).toNat < 0x0E := by
  rw [h.1]
  cases i <;> simp [Instr.code]

theorem decode_eq_ok_iff : decode cw = .ok i ↔ Selects cw i := by
  refine ⟨fun h => ?_, decode_of_selects⟩
  obtain ⟨j, hj, hok⟩ | ⟨-, herr⟩ := decode_cases cw
  · cases h.symm.trans hok; exact hj
  · cases h.symm.trans herr

theorem decode_eq_error_iff :
    decode cw = .error e ↔ 0x0E ≤ (cwCode cw).toNat ∧ e = .unknownService (cwCode cw) := by
  obtain ⟨i, hi, hok⟩ | ⟨hcode, herr⟩ := decode_cases cw
  · simp [hok, hi.code_lt]
  · simp [herr, hcode, eq_comm]

/-- R306, R307: a row of the code table, at any argument byte that carries the row's operand. -/
theorem decode_code_append {a : Byte} (i : Instr) (h : ∀ n, i = .damperPercent n → n = a.toNat) :
    decode (i.code ++ a) = .ok i :=
  decode_of_selects ⟨cwCode_append i.code a, by simpa using h⟩

/-- R308: the codes past the table, at any argument byte. -/
theorem decode_unknown_append {code : Byte} (a : Byte) (h : 0x0E ≤ code.toNat) :
    decode (code ++ a) = .error (.unknownService code) :=
  decode_eq_error_iff.2 ⟨by simpa using h, by simp⟩

end

/-! ### The statements -/

/-- Settles O1: the word of a well-formed instruction selects it. -/
theorem decodeEncodeRoundTrip : Obligations.DecodeEncodeRoundTrip :=
  fun _ hwf => decode_of_selects (selects_encode hwf)

/-- Settles O2, from the row that an accepted word selects and the range that a rejected one lies in. -/
theorem acceptedWordsReassemble : Obligations.AcceptedWordsReassemble := by
  refine fun cw => ⟨fun i hok => ?_, by simp [decode_eq_error_iff], fun e herr => (decode_eq_error_iff.1 herr).2⟩
  have hsel : Selects cw i := decode_eq_ok_iff.1 hok
  refine ⟨hsel.wf, (cwCode_encode i).trans hsel.1.symm, ?_, fun hplain => ?_⟩
  · rintro ⟨n, rfl⟩
    exact hsel.encode_damperPercent
  · exact (cwArg_encode i).trans (Instr.arg_eq_zero hplain)

/-- Settles O3, row by row of R306. -/
theorem commandCodeTable : Obligations.CommandCodeTable := fun a =>
  ⟨decode_code_append .off nofun, decode_code_append .ventilate nofun,
    decode_code_append .thermoHeat nofun, decode_code_append .thermoCool nofun,
    decode_code_append .thermoAuto nofun, decode_code_append .heatMode nofun,
    decode_code_append .coolMode nofun, decode_code_append .fanMode nofun,
    decode_code_append .fanHi nofun, decode_code_append .fanMed nofun,
    decode_code_append .fanLo nofun, decode_code_append (.damperPercent a.toNat) (by simp),
    decode_code_append .updateStatus nofun, decode_code_append .heartbeatAck nofun,
    fun _ => decode_unknown_append a⟩

/-- Settles O4 by evaluating the decoder on the eight words. -/
theorem decodeWrittenWords : Obligations.DecodeWrittenWords := by
  unfold Obligations.DecodeWrittenWords
  decide

end Sys2Proof
end

section
/-! PROOFS. Packet1 and Packet3 byte by byte (30_encoding.md R300, R301): the two share one layout, which is proved once
for any header and trailer. -/

namespace Sys2Proof.Machine

/-- The layout of R300: header, mode, filler, set-point, fan, trailer, and the checksum of all of them. -/
def HasLayout (b : List Byte) (h0 h1 mode filler sp fan : Byte) (trailer : List Byte) : Prop :=
  b.length = 7 + trailer.length ∧ b[0]? = some h0 ∧ b[1]? = some h1 ∧ b[2]? = some mode ∧
    b[3]? = some filler ∧ b[4]? = some sp ∧ b[5]? = some fan ∧
    (∀ j, j < trailer.length → b[6 + j]? = trailer[j]?) ∧
    b[6 + trailer.length]? = some (checksum (b.take (6 + trailer.length)))

/-- The byte past a body that is closed by its checksum. -/
theorem getElem?_append_checksum {body : List Byte} {n : Nat} (h : body.length = n) :
    (body ++ [checksum body])[n]? = some (checksum ((body ++ [checksum body]).take n)) := by
  subst h; simp

/-- Six bytes, a trailer and the checksum of both have the layout. -/
theorem hasLayout_append_checksum (h0 h1 mode filler sp fan : Byte) (trailer : List Byte) :
    HasLayout (([h0, h1, mode, filler, sp, fan] ++ trailer) ++
      [checksum ([h0, h1, mode, filler, sp, fan] ++ trailer)]) h0 h1 mode filler sp fan trailer := by
  have hlen : ([h0, h1, mode, filler, sp, fan] ++ trailer).length = 6 + trailer.length := by simp; omega
  refine ⟨by simp; omega, rfl, rfl, rfl, rfl, rfl, rfl, fun j hj => ?_, getElem?_append_checksum hlen⟩
  rw [List.getElem?_append_left (by omega), List.getElem?_append_right (by simp)]
  simp

/-- R300, R402. -/
theorem encode1_hasLayout (c : Cfg) (m t f : Byte) :
    HasLayout (encode1 c m t f) c.p1Header.1 c.p1Header.2 m c.filler1 t f c.p1Trailer :=
  hasLayout_append_checksum ..

/-- R301, R403: the header is the sequence number, high byte first. -/
theorem encode3_hasLayout (c : Cfg) (q : Word) (m t f : Byte) :
    HasLayout (encode3 c q m t f) (seqHigh q) (seqLow q) m c.filler1 t f c.p3Trailer :=
  hasLayout_append_checksum ..

/-- Settles O5: both packets have the one layout, each with its own header and trailer. -/
theorem packetLayouts : Obligations.PacketLayouts :=
  fun c q m t f => ⟨encode1_hasLayout c m t f, encode3_hasLayout c q m t f⟩

end Sys2Proof.Machine
end

section
/-! PROOFS. The checksum, its text form and the Packet2 decoder (40_packet_codec.md R401, R405, R410;
20_memory.md R203). -/

namespace Sys2Proof.Machine

/-! ### The text form (R401, R203) -/

/-- Each of the sixteen digits is read back as its value. -/
theorem hexValue_hexDigit : ∀ n < 16, hexValue (hexDigit n) = some n := by decide

/-- The first two characters of a text that starts with a byte are one chunk, and the chunk's value is the byte. -/
theorem parseChunks_hex2_append (v : Byte) (text : List Char) :
    parseChunks (hex2 v ++ text) = (parseChunks text).map (v.toNat :: ·) := by
  have hhigh : hexValue (hexDigit (v.toNat / 16)) = some (v.toNat / 16) := hexValue_hexDigit _ (by omega)
  have hlow : hexValue (hexDigit (v.toNat % 16)) = some (v.toNat % 16) := hexValue_hexDigit _ (by omega)
  cases h : parseChunks text <;> simp [hex2, parseChunks, hhigh, hlow, h, Nat.div_add_mod]

theorem parseChunks_hexString (b : List Byte) : parseChunks (hexString b) = some (b.map BitVec.toNat) := by
  induction b with
  | nil => rfl
  | cons v b ih =>
    rw [hexString, List.flatMap_cons, parseChunks_hex2_append, ← hexString, ih]
    rfl

/-- The text algorithm reduces its sum to a byte as `Checksum` does. -/
theorem textChecksum_hexString (b : List Byte) : textChecksum (hexString b) = some (hex2 (checksum b)) := by
  have hmod (n : Nat) : BitVec.ofNat 8 (n % 256) = BitVec.ofNat 8 n := BitVec.eq_of_toNat_eq (by simp)
  simp [textChecksum, parseChunks_hexString, hmod, checksum]

/-- Settles O6: the chunks parse to the bytes, and the two sums are reduced alike. -/
theorem textChecksumAgrees : Obligations.TextChecksumAgrees :=
  fun b => ⟨parseChunks_hexString b, textChecksum_hexString b⟩

/-! ### The decoder (R405) -/

/-- The seven fields of a Packet2, each at its configured offset. -/
def packet2Fields (c : Cfg) (b : List Byte) : Packet2 where
  mode := byteAt b c.p2Off.mode
  sp := byteAt b c.p2Off.sp
  fan := byteAt b c.p2Off.fan
  temp := byteAt b c.p2Off.temp
  reserved := byteAt b c.p2Off.reserved
  alerts := byteAt b c.p2Off.alerts
  compressor := byteAt b c.p2Off.compressor

theorem decodePacket2_of_ne {c : Cfg} {b : List Byte} (h : checksum (b.take c.p2CsumSpan) ≠ byteAt b c.p2CsumSpan) :
    decodePacket2 c b = none := if_neg h

theorem decodePacket2_of_eq {c : Cfg} {b : List Byte} (h : checksum (b.take c.p2CsumSpan) = byteAt b c.p2CsumSpan) :
    decodePacket2 c b = some (packet2Fields c b) := if_pos h

/-- Settles O11, one clause for each answer of the checksum comparison. -/
theorem decodeBySumAndOffset : Obligations.DecodeBySumAndOffset :=
  fun _ _ => ⟨decodePacket2_of_ne, decodePacket2_of_eq⟩

/-! ### The round trip (R410) -/

/-- The last byte of a list that is closed by its checksum is the checksum of the bytes before it. -/
theorem checksum_take_eq_byteAt (x : List Byte) :
    checksum ((x ++ [checksum x]).take x.length) = byteAt (x ++ [checksum x]) x.length := by
  rw [byteAt, List.getD_eq_getElem?_getD, getElem?_append_checksum rfl, Option.getD_some]

/-- Settles O7: the comparison that decides validity is between these two bytes. -/
theorem checksumRoundTrip : Obligations.ChecksumRoundTrip := by
  refine fun x => ⟨checksum_take_eq_byteAt x, fun c hspan => ?_⟩
  rw [decodePacket2_of_eq (hspan ▸ checksum_take_eq_byteAt x), Option.isSome_some]

end Sys2Proof.Machine
end

section
/-! PROOFS. The field checks of a valid Packet2 (40_packet_codec.md R406). -/

namespace Sys2Proof.Machine

/-- One check appends its warning, code 3 of R901, exactly when the field differs. -/
theorem warnUnless_eq (f : MismatchField) (got expected : Byte) (s : State) :
    warnUnless f got expected s =
      { s with trace := s.trace ++ if got = expected then [] else [.diag 3 (.field f.sub got)] } := by
  by_cases h : got = expected
  · simp [warnUnless, h]
  · simp only [warnUnless, h, if_false]; rfl

/-- Settles O12: the four checks one after another. -/
theorem diagnoseWarnsInOrder : Obligations.DiagnoseWarnsInOrder := by
  intro v sent s
  simp only [diagnose, warnUnless_eq, mismatchEvents, MismatchField.sub, List.append_assoc]

end Sys2Proof.Machine
end

section
/-! PROOFS. The framer (40_packet_codec.md R404, 20_memory.md R207): what the marker loop and the body loop do with bytes
and with a timeout. -/

namespace Sys2Proof.Machine

section
variable {c : Cfg} {n : Nat} {prev : Option Byte} {b : List Byte} {w rest : List RxDraw}

/-! ### One draw (R207) -/

/-- A timeout, or the end of the window, ends the scan. -/
theorem scanFrame_of_timeout (h : rxByte w = (none, rest)) : scanFrame c (n + 1) prev w = (.frameNotFound, rest) := by
  rw [scanFrame, h]

theorem scanFrame_of_marker (h : prev = some c.p2Header.1) :
    scanFrame c (n + 1) prev (.byte c.p2Header.2 :: w) = readFrame c w :=
  if_pos ⟨h, rfl⟩

theorem scanFrame_of_not_marker {x : Byte} (h : ¬ (prev = some c.p2Header.1 ∧ x = c.p2Header.2)) :
    scanFrame c (n + 1) prev (.byte x :: w) = scanFrame c n (some x) w :=
  if_neg h

/-- A timeout, or the end of the window, ends the body. -/
theorem readBody_of_timeout (h : rxByte w = (none, rest)) : readBody (n + 1) w = (false, [], rest) := by
  rw [readBody, h]

theorem readBody_of_byte (n : Nat) (d : Byte) (w : List RxDraw) :
    readBody (n + 1) (.byte d :: w) = ((readBody n w).1, d :: (readBody n w).2.1, (readBody n w).2.2) := rfl

theorem RxDraw.bytes_append (x y : List Byte) : RxDraw.bytes (x ++ y) = RxDraw.bytes x ++ RxDraw.bytes y :=
  List.map_append

/-! ### The body (R404) -/

/-- The bytes of a body are taken as they come, and the loop goes on behind them. -/
theorem readBody_bytes_append (ds : List Byte) (n : Nat) (w : List RxDraw) :
    readBody (ds.length + n) (RxDraw.bytes ds ++ w) =
      ((readBody n w).1, ds ++ (readBody n w).2.1, (readBody n w).2.2) := by
  induction ds with
  | nil => rw [List.length_nil, Nat.zero_add]; rfl
  | cons d ds ih =>
    rw [List.length_cons, Nat.add_right_comm]
    refine (readBody_of_byte _ d (RxDraw.bytes ds ++ w)).trans ?_
    rw [ih]
    rfl

/-- (a) All `P2_LEN - 2` bytes of the body come. -/
theorem readFrame_of_length_eq (h : b.length = c.p2Len - 2) :
    readFrame c (RxDraw.bytes b ++ rest) = (.frame ([c.p2Header.1, c.p2Header.2] ++ b), rest) := by
  have hbody : readBody (c.p2Len - 2) (RxDraw.bytes b ++ rest) = (true, b, rest) := by
    simpa [h, readBody] using readBody_bytes_append b 0 rest
  rw [readFrame, hbody]

/-- (b) The body ends before its `P2_LEN - 2` bytes have come. -/
theorem readFrame_of_length_lt (h : b.length < c.p2Len - 2) (hw : rxByte w = (none, rest)) :
    readFrame c (RxDraw.bytes b ++ w) = (.short ([c.p2Header.1, c.p2Header.2] ++ b), rest) := by
  obtain ⟨k, hk⟩ := Nat.exists_eq_add_of_lt h
  have hbody : readBody (c.p2Len - 2) (RxDraw.bytes b ++ w) = (false, b, rest) := by
    rw [hk, Nat.add_assoc, readBody_bytes_append, readBody_of_timeout hw, List.append_nil]
  rw [readFrame, hbody]

/-! ### The search for the marker (R404) -/

theorem markerAt.lt_length {k : Nat} (h : markerAt c b k) : k + 1 < b.length :=
  (List.getElem?_eq_some_iff.1 h.2).1

/-- A marker stays one when further bytes come. -/
theorem markerAt.append {k : Nat} (h : markerAt c b k) (l : List Byte) : markerAt c (b ++ l) k := by
  have hk := h.lt_length
  exact ⟨by rw [List.getElem?_append_left (by omega)]; exact h.1,
    by rw [List.getElem?_append_left hk]; exact h.2⟩

/-- A marker stays one, further on, behind bytes that came before. -/
theorem markerAt.prepend {k : Nat} (h : markerAt c b k) (l : List Byte) : markerAt c (l ++ b) (l.length + k) :=
  ⟨by rw [List.getElem?_append_right (by omega), Nat.add_sub_cancel_left]; exact h.1,
    by rw [Nat.add_assoc, List.getElem?_append_right (by omega), Nat.add_sub_cancel_left]; exact h.2⟩

/-- Bytes that, with the byte before them, hold no marker are passed over; the last of them is the next `prev`. -/
theorem scanFrame_bytes_append (h : ∀ k, ¬ markerAt c (prev.toList ++ b) k) :
    scanFrame c (b.length + n) prev (RxDraw.bytes b ++ w) = scanFrame c n (prev.toList ++ b).getLast? w := by
  induction b generalizing prev with
  | nil => cases prev <;> simp [RxDraw.bytes]
  | cons x b ih =>
    have hx : ¬ (prev = some c.p2Header.1 ∧ x = c.p2Header.2) := by
      rintro ⟨rfl, rfl⟩
      exact h 0 ⟨rfl, rfl⟩
    have hb : ∀ k, ¬ markerAt c ((some x).toList ++ b) k := fun k hk => h _ (hk.prepend prev.toList)
    have hlast : (prev.toList ++ x :: b).getLast? = (x :: b).getLast? :=
      List.getLast?_append_of_ne_nil _ (List.cons_ne_nil x b)
    rw [List.length_cons, Nat.add_right_comm, hlast]
    exact (scanFrame_of_not_marker hx).trans (ih hb)

/-- (c) No marker among the bytes before a timeout or the end of the window. -/
theorem scanFrame_unmarked_timeout (h : ∀ k, ¬ markerAt c b k) (hlen : b.length < c.p2Len)
    (hw : rxByte w = (none, rest)) : scanFrame c c.p2Len none (RxDraw.bytes b ++ w) = (.frameNotFound, rest) := by
  obtain ⟨k, hk⟩ := Nat.exists_eq_add_of_lt hlen
  rw [hk, Nat.add_assoc, scanFrame_bytes_append h, scanFrame_of_timeout hw]

/-- (c) No marker among `P2_LEN` bytes. -/
theorem scanFrame_unmarked_full (h : ∀ k, ¬ markerAt c b k) (hlen : b.length = c.p2Len) :
    scanFrame c c.p2Len none (RxDraw.bytes b ++ w) = (.frameNotFound, w) := by
  rw [← hlen, ← Nat.add_zero b.length, scanFrame_bytes_append h]
  rfl

/-- (a), (b) The first marker that completes within `P2_LEN` bytes starts the frame. -/
theorem scanFrame_marked {junk : List Byte}
    (h : ∀ k, k < junk.length → ¬ markerAt c (junk ++ [c.p2Header.1, c.p2Header.2]) k)
    (hlen : junk.length + 2 ≤ c.p2Len) :
    scanFrame c c.p2Len none (RxDraw.bytes (junk ++ [c.p2Header.1, c.p2Header.2]) ++ w) = readFrame c w := by
  have hfirst : ∀ k, ¬ markerAt c (junk ++ [c.p2Header.1]) k := fun k hk =>
    h k (by simpa using hk.lt_length) (by simpa using hk.append [c.p2Header.2])
  have hdraws : RxDraw.bytes (junk ++ [c.p2Header.1, c.p2Header.2]) ++ w =
      RxDraw.bytes (junk ++ [c.p2Header.1]) ++ .byte c.p2Header.2 :: w := by
    simp [RxDraw.bytes]
  obtain ⟨n, hn⟩ := Nat.exists_eq_add_of_le hlen
  have hfuel : c.p2Len = (junk ++ [c.p2Header.1]).length + (n + 1) := by simp; omega
  rw [hdraws, hfuel, scanFrame_bytes_append hfirst]
  exact scanFrame_of_marker (by simp)

end

/-- Settles O9: the search for the marker, and with a marker the body, each up to its end or a timeout. -/
theorem receiveFrameOutcomes : Obligations.ReceiveFrameOutcomes := by
  refine ⟨fun c junk body rest hjunk hlen => ?_, fun c b rest hb => ⟨fun hlt => ⟨?_, ?_⟩, ?_⟩⟩
  · simp only [RxDraw.bytes_append _ body, List.append_assoc (RxDraw.bytes _)]
    refine ⟨fun heq => ?_, fun hlt => ⟨?_, ?_⟩⟩
    · exact (scanFrame_marked hjunk hlen).trans (readFrame_of_length_eq heq)
    · rw [← List.append_nil (RxDraw.bytes body)]
      exact (scanFrame_marked hjunk hlen).trans (readFrame_of_length_lt hlt rfl)
    · exact (scanFrame_marked hjunk hlen).trans (readFrame_of_length_lt hlt rfl)
  · simpa using scanFrame_unmarked_timeout hb hlt (w := []) rfl
  · exact scanFrame_unmarked_timeout hb hlt rfl
  · exact scanFrame_unmarked_full hb

/-! ### What any reception is (R404, R200) -/

/-- A reception that is a frame is whole, and a short one is not; both begin with the marker. -/
def Reception.WellFormed (c : Cfg) : Reception → Prop
  | .frameNotFound => True
  | .short b => b.length < c.p2Len ∧ b.take 2 = [c.p2Header.1, c.p2Header.2]
  | .frame b => b.length = c.p2Len ∧ b.take 2 = [c.p2Header.1, c.p2Header.2]

/-- The scan finds nothing, or starts a frame, and then it has examined at least two bytes, of which `prev` may be one. -/
theorem scanFrame_cases (c : Cfg) (n : Nat) (prev : Option Byte) (w : List RxDraw) :
    ∃ w', w' <:+ w ∧ (scanFrame c n prev w = (.frameNotFound, w') ∨
      scanFrame c n prev w = readFrame c w' ∧ 2 ≤ n + prev.toList.length) := by
  induction n generalizing prev w with
  | zero => exact ⟨w, List.suffix_rfl, .inl rfl⟩
  | succ n ih =>
    match w with
    | [] => exact ⟨[], List.suffix_rfl, .inl rfl⟩
    | .timeout :: w => exact ⟨w, List.suffix_cons _ w, .inl rfl⟩
    | .byte x :: w =>
      by_cases h : prev = some c.p2Header.1 ∧ x = c.p2Header.2
      · obtain ⟨rfl, rfl⟩ := h
        exact ⟨w, List.suffix_cons _ w, .inr ⟨scanFrame_of_marker rfl, Nat.le_add_left 2 n⟩⟩
      · rw [scanFrame_of_not_marker h]
        obtain ⟨w', hsuffix, hres⟩ := ih (some x) w
        refine ⟨w', hsuffix.trans (List.suffix_cons _ w), hres.imp_right fun ⟨heq, hle⟩ => ⟨heq, ?_⟩⟩
        exact hle.trans (Nat.le_add_right (n + 1) _)

/-- Reading a body consumes an initial part of the window, and only all `P2_LEN - 2` bytes make a frame. -/
theorem readFrame_wellFormed {c : Cfg} (h : 2 ≤ c.p2Len) (w : List RxDraw) :
    (readFrame c w).1.WellFormed c ∧ (readFrame c w).2 <:+ w := by
  obtain ⟨⟨used, hused⟩, hle, hall⟩ := readBody_spec (c.p2Len - 2) w
  have hlength (ds : List Byte) : ([c.p2Header.1, c.p2Header.2] ++ ds).length = ds.length + 2 := rfl
  rw [readFrame]
  rcases heq : readBody (c.p2Len - 2) w with ⟨all, ds, rest⟩
  rw [heq] at hused hle hall
  cases all with
  | false =>
    have hlt : ds.length < c.p2Len - 2 := lt_of_le_of_ne hle (by simpa using hall)
    exact ⟨⟨by rw [hlength]; omega, rfl⟩, used, hused.symm⟩
  | true =>
    have hlen : ds.length = c.p2Len - 2 := hall.1 rfl
    exact ⟨⟨by rw [hlength]; omega, rfl⟩, used, hused.symm⟩

/-- `ReceiveFrame` on any window. -/
theorem scanFrame_wellFormed (c : Cfg) (w : List RxDraw) :
    (scanFrame c c.p2Len none w).1.WellFormed c ∧ (scanFrame c c.p2Len none w).2 <:+ w := by
  obtain ⟨w', hsuffix, heq | ⟨heq, hle⟩⟩ := scanFrame_cases c c.p2Len none w
  · rw [heq]; exact ⟨trivial, hsuffix⟩
  · rw [heq]
    obtain ⟨hform, hrest⟩ := readFrame_wellFormed hle w'
    exact ⟨hform, hrest.trans hsuffix⟩

/-- Settles O10, from the form of the reception and the window it leaves. -/
theorem receivedFramesAreWhole : Obligations.ReceivedFramesAreWhole := by
  intro c w
  obtain ⟨hform, used, hused⟩ := scanFrame_wellFormed c w
  refine ⟨fun b hb => ?_, fun b hb => ?_, used, hused.symm⟩ <;> rw [hb] at hform <;> exact hform

end Sys2Proof.Machine
end

section
/-! PROOFS. The sequence-number rotator (40_packet_codec.md R408, R409): a sequence number is a two-digit mixed-radix
number, `SeqNext` adds one to it, and so its iterates run through the whole space. -/

namespace Sys2Proof.Machine

/-! ### The counters of a sequence number (R102, R303) -/

@[simp] theorem seqHigh_seqOf (b n : Nat) : seqHigh (seqOf b n) = BitVec.ofNat 8 b := BitVec.extractLsb'_append_eq_left

@[simp] theorem seqNib_seqOf (b n : Nat) : seqNib (seqOf b n) = BitVec.ofNat 4 n := by
  have hlow : (seqOf b n).extractLsb' 0 8 = BitVec.ofNat 4 n ++ 0xF#4 := BitVec.extractLsb'_append_eq_right
  have hnib : seqNib (seqOf b n) = ((seqOf b n).extractLsb' 0 8).extractLsb' 4 4 := by
    rw [seqNib, BitVec.extractLsb'_extractLsb'_of_le (by decide)]
  rw [hnib, hlow, BitVec.extractLsb'_append_eq_left]

/-- A sequence number is its byte counter, its nibble counter and its low nibble, one after another. -/
theorem seqHigh_append_seqNib_append (w : Word) : seqHigh w ++ (seqNib w ++ w.extractLsb' 0 4) = w := by
  have hlow : seqNib w ++ w.extractLsb' 0 4 = seqLow w := BitVec.extractLsb'_append_extractLsb'_eq_extractLsb' rfl
  rw [hlow]
  exact (BitVec.extractLsb'_append_extractLsb'_eq_extractLsb' rfl).trans BitVec.extractLsb'_eq_self

theorem eq_of_counters_eq {v w : Word} (hhigh : seqHigh v = seqHigh w) (hnib : seqNib v = seqNib w)
    (hlow : v.extractLsb' 0 4 = w.extractLsb' 0 4) : v = w := by
  rw [← seqHigh_append_seqNib_append v, hhigh, hnib, hlow, seqHigh_append_seqNib_append]

/-! ### `SeqNext` on the counters (R408) -/

section
variable {c : Cfg} {v w : Word}

/-- R9: the counters' ranges under a legal configuration. -/
theorem seqRanges_of_wf (h : c.wf = true) : c.seqNibMin ≤ c.seqNibMax ∧ c.seqNibMax ≤ 0xF ∧ c.seqByteMax ≤ 0xFF := by
  simp only [Cfg.wf, Cfg.seqRangesLegal, Bool.and_eq_true, decide_eq_true_eq] at h
  obtain ⟨-, -, -, -, ⟨⟨hnib, hnibMax⟩, hbyte⟩, -⟩ := h
  exact ⟨hnib, hnibMax, hbyte⟩

/-- Below `SEQ_NIB_MAX` the nibble counter counts. -/
theorem seqNext_count (hwf : c.wf = true) (h : (seqNib w).toNat < c.seqNibMax) :
    (seqNib (seqNext c w)).toNat = (seqNib w).toNat + 1 ∧ seqHigh (seqNext c w) = seqHigh w := by
  have hmax := (seqRanges_of_wf hwf).2.1
  have hfits : (seqNib w).toNat + 1 < 16 := by omega
  rw [seqNext, if_pos h]
  simp [hfits]

/-- From `SEQ_NIB_MAX` on the nibble counter wraps, and the byte counter counts or wraps. -/
theorem seqNext_wrap (hwf : c.wf = true) (h : c.seqNibMax ≤ (seqNib w).toNat) :
    (seqNib (seqNext c w)).toNat = c.seqNibMin ∧
      (seqHigh (seqNext c w)).toNat = if (seqHigh w).toNat < c.seqByteMax then (seqHigh w).toNat + 1 else 0 := by
  obtain ⟨hnib, hnibMax, hbyte⟩ := seqRanges_of_wf hwf
  have hnibFits : c.seqNibMin < 16 := by omega
  rw [seqNext, if_neg (Nat.not_lt.2 h)]
  split
  case isTrue hcount =>
    have hbyteFits : (seqHigh w).toNat + 1 < 256 := by omega
    simp [hnibFits, hbyteFits]
  case isFalse => simp [hnibFits]

/-- Settles O13, one clause for each side of `SEQ_NIB_MAX`. -/
theorem seqNextCounters : Obligations.SeqNextCounters :=
  fun c w hwf => ⟨seqNext_low_nibble c w, seqNext_count hwf, seqNext_wrap hwf⟩

/-! ### The place of a member in the sequence space (R409) -/

/-- The number of values of the nibble counter. -/
def seqRadix (c : Cfg) : Nat := c.seqNibMax - c.seqNibMin + 1

/-- A sequence number as a number of two digits, the nibble counter's offset the lower one. -/
def seqRank (c : Cfg) (w : Word) : Nat := seqRadix c * (seqHigh w).toNat + ((seqNib w).toNat - c.seqNibMin)

theorem seqPeriod_eq (c : Cfg) : seqPeriod c = seqRadix c * (c.seqByteMax + 1) := Nat.mul_comm _ _

/-- The lower digit of a member's rank is a digit. -/
theorem seqNib_offset_lt (hw : seqSpace c w) : (seqNib w).toNat - c.seqNibMin < seqRadix c := by
  obtain ⟨-, hmin, hmax, -⟩ := hw
  rw [seqRadix]
  omega

theorem seqRank_lt (hw : seqSpace c w) : seqRank c w < seqPeriod c := by
  calc seqRank c w < seqRadix c * (seqHigh w).toNat + seqRadix c := Nat.add_lt_add_left (seqNib_offset_lt hw) _
    _ = seqRadix c * ((seqHigh w).toNat + 1) := rfl
    _ ≤ seqRadix c * (c.seqByteMax + 1) := Nat.mul_le_mul_left _ (Nat.succ_le_succ hw.1)
    _ = seqPeriod c := (seqPeriod_eq c).symm

/-- The byte counter is the quotient of a member's rank, so members of the same rank are equal. -/
theorem seqRank_injective (hv : seqSpace c v) (hw : seqSpace c w) (h : seqRank c v = seqRank c w) : v = w := by
  have hdiv {u : Word} (hu : seqSpace c u) : seqRank c u / seqRadix c = (seqHigh u).toNat := by
    have hdigit := seqNib_offset_lt hu
    rw [seqRank, Nat.mul_add_div (by omega), Nat.div_eq_of_lt hdigit, Nat.add_zero]
  have hhigh : (seqHigh v).toNat = (seqHigh w).toNat := by rw [← hdiv hv, h, hdiv hw]
  rw [seqRank, seqRank, hhigh] at h
  obtain ⟨-, hvmin, -, hvlow⟩ := hv
  obtain ⟨-, hwmin, -, hwlow⟩ := hw
  exact eq_of_counters_eq (BitVec.eq_of_toNat_eq hhigh) (BitVec.eq_of_toNat_eq (by omega)) (hvlow.trans hwlow.symm)

/-- R409: `SeqNext` maps the sequence space into itself. -/
theorem seqSpace_seqNext (hwf : c.wf = true) (hw : seqSpace c w) : seqSpace c (seqNext c w) := by
  obtain ⟨hbyte, hmin, -, -⟩ := hw
  have hranges := (seqRanges_of_wf hwf).1
  obtain hlt | hge := Nat.lt_or_ge (seqNib w).toNat c.seqNibMax
  · obtain ⟨hnib, hhigh⟩ := seqNext_count hwf hlt
    exact ⟨hhigh ▸ hbyte, by omega, by omega, seqNext_low_nibble c w⟩
  · obtain ⟨hnib, hhigh⟩ := seqNext_wrap hwf hge
    exact ⟨by split at hhigh <;> omega, by omega, by omega, seqNext_low_nibble c w⟩

/-- R409: `SeqNext` adds one to the number, up to the last member, and goes from it to the first. -/
theorem seqRank_seqNext (hwf : c.wf = true) (hw : seqSpace c w) :
    seqRank c (seqNext c w) = seqRank c w + 1 ∨ (seqRank c (seqNext c w) = 0 ∧ seqRank c w + 1 = seqPeriod c) := by
  obtain ⟨hbyte, hmin, hmax, -⟩ := hw
  have hradix : seqRadix c = c.seqNibMax - c.seqNibMin + 1 := rfl
  simp only [seqPeriod_eq, seqRank]
  obtain hlt | hge := Nat.lt_or_ge (seqNib w).toNat c.seqNibMax
  · obtain ⟨hnib, hhigh⟩ := seqNext_count hwf hlt
    rw [hnib, hhigh]
    omega
  · obtain ⟨hnib, hhigh⟩ := seqNext_wrap hwf hge
    rw [hnib, hhigh]
    split
    case isTrue => rw [Nat.mul_succ]; omega
    case isFalse hlast =>
      rw [show c.seqByteMax = (seqHigh w).toNat by omega, Nat.mul_succ]
      omega

/-! ### The iterates of `SeqNext` (R409) -/

/-- `k` iterates stay in the space and add `k` to the number, modulo the number of members. -/
theorem seqRank_iterate (hwf : c.wf = true) (hw : seqSpace c w) (k : Nat) :
    seqSpace c ((seqNext c)^[k] w) ∧ seqRank c ((seqNext c)^[k] w) ≡ seqRank c w + k [MOD seqPeriod c] := by
  induction k with
  | zero => exact ⟨hw, Nat.ModEq.refl _⟩
  | succ k ih =>
    obtain ⟨hspace, hrank⟩ := ih
    have hstep : seqRank c (seqNext c ((seqNext c)^[k] w)) ≡ seqRank c ((seqNext c)^[k] w) + 1 [MOD seqPeriod c] := by
      obtain heq | ⟨hzero, hperiod⟩ := seqRank_seqNext hwf hspace
      · rw [heq]
      · rw [hzero, hperiod]; simp [Nat.ModEq]
    rw [Function.iterate_succ_apply']
    exact ⟨seqSpace_seqNext hwf hspace, hstep.trans (hrank.add_right 1)⟩

/-- The iterate that reaches a member is told by the ranks. -/
theorem iterate_seqNext_eq_iff (hwf : c.wf = true) (hw : seqSpace c w) (hv : seqSpace c v) (k : Nat) :
    (seqNext c)^[k] w = v ↔ seqRank c w + k ≡ seqRank c v [MOD seqPeriod c] := by
  obtain ⟨hspace, hrank⟩ := seqRank_iterate hwf hw k
  refine ⟨fun h => h ▸ hrank.symm, fun h => seqRank_injective hspace hv ?_⟩
  exact (hrank.trans h).eq_of_lt_of_lt (seqRank_lt hspace) (seqRank_lt hv)

/-- The distance from one member to another, going up and round. -/
theorem exists_iterate_seqNext_eq (hwf : c.wf = true) (hw : seqSpace c w) (hv : seqSpace c v) :
    ∃ k, k < seqPeriod c ∧ (seqNext c)^[k] w = v := by
  have hlt := seqRank_lt hw
  refine ⟨(seqRank c v + (seqPeriod c - seqRank c w)) % seqPeriod c, Nat.mod_lt _ (by omega), ?_⟩
  rw [iterate_seqNext_eq_iff hwf hw hv]
  calc seqRank c w + (seqRank c v + (seqPeriod c - seqRank c w)) % seqPeriod c
      ≡ seqRank c w + (seqRank c v + (seqPeriod c - seqRank c w)) [MOD seqPeriod c] := (Nat.mod_modEq _ _).add_left _
    _ = seqRank c v + seqPeriod c := by omega
    _ ≡ seqRank c v [MOD seqPeriod c] := by simp [Nat.ModEq]

end

/-- Settles O14: `SeqNext` counts the ranks modulo the number of members, and a rank tells its member. -/
theorem sequenceCycle : Obligations.SequenceCycle := by
  intro c w hwf hw
  refine ⟨seqSpace_seqNext hwf hw, ?_, fun k hpos hlt hk => ?_, fun v => exists_iterate_seqNext_eq hwf hw, ?_⟩
  · rw [iterate_seqNext_eq_iff hwf hw hw]
    simp [Nat.ModEq]
  · rw [iterate_seqNext_eq_iff hwf hw hw] at hk
    have hdvd : seqPeriod c ∣ k := (Nat.modEq_zero_iff_dvd).1 (Nat.ModEq.add_left_cancel' (seqRank c w) hk)
    exact absurd (Nat.le_of_dvd hpos hdvd) (Nat.not_le.2 hlt)
  · intro hbyte hmin hmax
    rw [seqPeriod, hbyte, hmin, hmax]

end Sys2Proof.Machine
end

section
/-! PROOFS. The quantiser and the linearizer (41_damper.md R502 to R504): the three ranges of `Quantize`, and the
linearizer as `Quantize` of the exact percentage, from which it inherits that it never rises with the reading. -/

namespace Sys2Proof.Machine

/-! ### `Quantize` range by range (R503) -/

section
variable {c : Cfg} {p q : Rat}

theorem quantize_of_high (h : (c.quantHigh : Rat) ≤ p) : quantize c p = 100 := if_pos h

theorem quantize_of_low (hhigh : p < c.quantHigh) (h : p ≤ c.quantLow) : quantize c p = 0 := by
  rw [quantize, if_neg hhigh.not_ge, if_pos h]

theorem quantize_of_between (hhigh : p < c.quantHigh) (h : (c.quantLow : Rat) < p) :
    quantize c p = c.quantStep * ⌊(p + c.quantStep / 2) / c.quantStep⌋₊ := by
  rw [quantize, if_neg hhigh.not_ge, if_neg h.not_ge, ← Int.floor_toNat]
  rfl

/-- Between the boundaries at most `100 / STEP` whole steps fit, because the rounding adds only half a step. -/
theorem quantize_le_hundred (hc : c.quantLegal = true) (p : Rat) : quantize c p ≤ 100 := by
  simp only [Cfg.quantLegal, Bool.and_eq_true, decide_eq_true_eq] at hc
  obtain ⟨⟨hstep, hdvd⟩, hle⟩ := hc
  rcases le_or_gt (c.quantHigh : Rat) p with hhigh | hhigh
  · rw [quantize_of_high hhigh]
  rcases le_or_gt p c.quantLow with hlow | hlow
  · rw [quantize_of_low hhigh hlow]
    exact Nat.zero_le _
  · obtain ⟨k, hk⟩ := Nat.dvd_of_mod_eq_zero hdvd
    have hpos : (0 : Rat) < c.quantStep := by exact_mod_cast hstep
    have hk' : (100 : Rat) = c.quantStep * k := by exact_mod_cast hk
    have hp : p < 100 := hhigh.trans_le (by exact_mod_cast hle)
    have hfloor : ⌊(p + c.quantStep / 2) / c.quantStep⌋₊ < k + 1 := by
      rw [Nat.floor_lt' k.succ_ne_zero, div_lt_iff₀ hpos]
      push_cast
      linarith
    calc quantize c p = c.quantStep * ⌊(p + c.quantStep / 2) / c.quantStep⌋₊ := quantize_of_between hhigh hlow
      _ ≤ c.quantStep * k := Nat.mul_le_mul_left _ (Nat.le_of_lt_succ hfloor)
      _ = 100 := hk.symm

/-- R503's monotonicity, under every legal configuration. -/
theorem quantize_mono (hc : c.quantLegal = true) (h : p ≤ q) : quantize c p ≤ quantize c q := by
  rcases le_or_gt (c.quantHigh : Rat) q with hq | hq
  · rw [quantize_of_high hq]
    exact quantize_le_hundred hc p
  have hp : p < c.quantHigh := h.trans_lt hq
  rcases le_or_gt p c.quantLow with hlow | hlow
  · rw [quantize_of_low hp hlow]
    exact Nat.zero_le _
  · rw [quantize_of_between hp hlow, quantize_of_between hq (hlow.trans_le h)]
    gcongr

end

/-! ### The boundaries under the default literals (R503) -/

/-- A result `10k` from 10 to 90 owns `[10k - 5, 10k + 5)`, without the 5 that belongs to 0. -/
theorem quantize_eq_ten_mul {c : Cfg} (hlow : c.quantLow = 5) (hhigh : c.quantHigh = 95) (hstep : c.quantStep = 10)
    {k : Nat} (hk : 1 ≤ k) (hk' : k ≤ 9) {p : Rat} (h5 : 5 < p) (hle : 10 * (k : Rat) - 5 ≤ p)
    (hlt : p < 10 * (k : Rat) + 5) : quantize c p = 10 * k := by
  have hk9 : (k : Rat) ≤ 9 := by exact_mod_cast hk'
  have hp : p < c.quantHigh := by rw [hhigh]; push_cast; linarith
  have hp' : (c.quantLow : Rat) < p := by rw [hlow]; exact_mod_cast h5
  rw [quantize_of_between hp hp', hstep]
  congr 1
  rw [Nat.floor_eq_iff' (by omega)]
  push_cast
  constructor <;> linarith

/-- Settles O17, from the ranges of `Quantize` and its monotonicity. -/
theorem quantizeOwnership : Obligations.QuantizeOwnership := by
  intro c hlow hhigh hstep
  have hc : c.quantLegal = true := by simp [Cfg.quantLegal, hhigh, hstep]
  refine ⟨fun p h => quantize_of_high ?_, fun p h => quantize_of_low ?_ ?_, fun p h h' => ?_,
    fun k p hk hk' hle hlt => ?_, fun p q => quantize_mono hc⟩
  · rw [hhigh]; exact_mod_cast h
  · rw [hhigh]; push_cast; linarith
  · rw [hlow]; exact_mod_cast h
  · exact quantize_eq_ten_mul (k := 1) hlow hhigh hstep le_rfl (by omega) h (by push_cast; linarith)
      (by push_cast; linarith)
  · have hk2 : (2 : Rat) ≤ k := by exact_mod_cast hk
    exact quantize_eq_ten_mul hlow hhigh hstep (by omega) hk' (by linarith) hle hlt

/-! ### `Linearize` against the exact percentage (R502, R504) -/

section
variable {c : Cfg} {r day night : Nat}

theorem natCast_le_percentage_iff (h : day < night) (b : Nat) :
    (b : Rat) ≤ percentage r day night ↔ (b : Int) * (night - day) ≤ 100 * (night - r) := by
  rw [percentage, le_div_iff₀ (sub_pos.2 (by exact_mod_cast h))]
  exact_mod_cast Iff.rfl

theorem percentage_le_natCast_iff (h : day < night) (b : Nat) :
    percentage r day night ≤ b ↔ 100 * ((night : Int) - r) ≤ b * (night - day) := by
  rw [percentage, div_le_iff₀ (sub_pos.2 (by exact_mod_cast h))]
  exact_mod_cast Iff.rfl

/-- The rounding of R503 is the integer division of R504: both sides of the fraction times `2 * D`. -/
theorem floor_percentage_add_half {s : Nat} (hs : 0 < s) (h : day < night) :
    ((percentage r day night + (s : Rat) / 2) / s).floor =
      (200 * ((night : Int) - r) + s * (night - day)) / (2 * s * (night - day)) := by
  have hs' : (s : Rat) ≠ 0 := by exact_mod_cast hs.ne'
  have hD : (night : Rat) - day ≠ 0 := sub_ne_zero.2 (by exact_mod_cast h.ne')
  have hfrac : (percentage r day night + (s : Rat) / 2) / s =
      ((200 * ((night : Int) - r) + s * (night - day) : Int) : Rat) / ((2 * s * (night - day) : Nat) : Rat) := by
    push_cast [Nat.cast_sub h.le, percentage]
    field_simp
    ring
  have hfloor := Rat.floor_intCast_div_natCast (200 * ((night : Int) - r) + s * (night - day)) (2 * s * (night - day))
  rw [← hfrac] at hfloor
  push_cast [Nat.cast_sub h.le] at hfloor
  exact hfloor

/-- R504: the comparisons and the rounding agree one by one; a step of 0 makes both results 0 between the boundaries. -/
theorem linearize_eq_quantize (c : Cfg) (r : Nat) (h : day < night) :
    linearize c r day night = quantize c (percentage r day night) := by
  have hround : c.quantStep * ((percentage r day night + (c.quantStep : Rat) / 2) / c.quantStep).floor.toNat =
      c.quantStep * ((200 * ((night : Int) - r) + c.quantStep * (night - day)) /
        (2 * c.quantStep * (night - day))).toNat := by
    rcases Nat.eq_zero_or_pos c.quantStep with hs | hs
    · simp only [hs, Nat.zero_mul]
    · rw [floor_percentage_add_half hs h]
  simp only [linearize, quantize, ge_iff_le, natCast_le_percentage_iff h, percentage_le_natCast_iff h, hround]

/-- R504's text, under the default literals. -/
theorem linearize_of_defaults (hlow : c.quantLow = 5) (hhigh : c.quantHigh = 95) (hstep : c.quantStep = 10)
    (h : day < night) :
    (linearize c r day night : Int) =
      if 20 * ((night : Int) - r) ≥ 19 * ((night : Int) - day) then 100
      else if 20 * ((night : Int) - r) ≤ (night : Int) - day then 0
      else 10 * ((20 * ((night : Int) - r) + ((night : Int) - day)) / (2 * ((night : Int) - day))) := by
  simp only [linearize, hlow, hhigh, hstep]
  generalize hn : (night : Int) - r = n
  generalize hd : (night : Int) - day = d
  have hdiv : (200 * n + ((10 : Nat) : Int) * d) / (2 * ((10 : Nat) : Int) * d) = (20 * n + d) / (2 * d) := by
    rw [show 200 * n + ((10 : Nat) : Int) * d = 10 * (20 * n + d) by push_cast; ring,
      show 2 * ((10 : Nat) : Int) * d = 10 * (2 * d) by push_cast; ring, Int.mul_ediv_mul_of_pos _ _ (by omega)]
  rw [hdiv]
  by_cases h95 : 20 * n ≥ 19 * d
  · rw [if_pos h95, if_pos (by omega)]; rfl
  by_cases h5 : 20 * n ≤ d
  · rw [if_neg h95, if_neg (by omega), if_pos h5, if_pos (by omega)]; rfl
  · have hnonneg : 0 ≤ (20 * n + d) / (2 * d) := Int.ediv_nonneg (by omega) (by omega)
    rw [if_neg h95, if_neg (by omega), if_neg h5, if_neg (by omega), Nat.cast_mul, Int.toNat_of_nonneg hnonneg]
    rfl

/-- R502: a higher reading is a lower percentage. -/
theorem percentage_anti {r' : Nat} (h : day < night) (hr : r ≤ r') :
    percentage r' day night ≤ percentage r day night := by
  have hD : (0 : Rat) ≤ (night : Rat) - day := sub_nonneg.2 (by exact_mod_cast h.le)
  have hr' : (r : Rat) ≤ r' := by exact_mod_cast hr
  exact div_le_div_of_nonneg_right (by linarith) hD

theorem linearize_anti {r' : Nat} (hc : c.quantLegal = true) (h : day < night) (hr : r ≤ r') :
    linearize c r' day night ≤ linearize c r day night := by
  rw [linearize_eq_quantize c r' h, linearize_eq_quantize c r h]
  exact quantize_mono hc (percentage_anti h hr)

end

/-- A percentage fits the seven bits of `REQ` and `REPORTED` (R104). -/
theorem percent_toNat_ofNat {n : Nat} (h : n ≤ 100) : (BitVec.ofNat 7 n).toNat = n :=
  BitVec.toNat_ofNat n 7 ▸ Nat.mod_eq_of_lt (by omega)

/-- Settles O16: the linearizer is `Quantize` of the exact percentage; its text, range and order follow. -/
theorem linearizeIsExact : Obligations.LinearizeIsExact := by
  intro c r day night h
  refine ⟨linearize_eq_quantize c r h, fun hlow hhigh hstep => linearize_of_defaults hlow hhigh hstep h,
    fun hwf => ?_⟩
  have hc := quantLegal_of_wf hwf
  obtain ⟨hmod, hle⟩ := linearize_legal c r day night hc h
  exact ⟨hmod, hle, percent_toNat_ofNat hle, fun r' => linearize_anti hc h⟩

end Sys2Proof.Machine
end

section
/-! PROOFS. The sensor, the drive policy, the relay lines, the adjustment step and the calibration (41_damper.md R500,
R501, R505 to R509). -/

namespace Sys2Proof.Machine

/-! ### The sensor (R208, R501) -/

theorem sample_of_cons {s : State} {x y : Nat} {rest : List (Nat × Nat)} (h : s.inp.samples = (x, y) :: rest) :
    sample s = ((x % 2 ^ s.cfg.xW, y % 2 ^ s.cfg.yW), { s with inp.samples := rest }) := by
  simp only [sample, h]

theorem sample_of_nil {s : State} (h : s.inp.samples = []) :
    (sample s).2 = { s with inp.sampleCtr := s.inp.sampleCtr + 1 } := by
  simp only [sample, h]

/-- Settles O15, from the two kinds of draw and the whole reading. -/
theorem readingsWithinWidths : Obligations.ReadingsWithinWidths := fun s =>
  ⟨fun _ _ _ => sample_of_cons, sample_of_nil, (sample_fst_lt s).1, (sample_fst_lt s).2, readRaw_fst_lt s, readRaw_eq s⟩

/-! ### The drive policy (R505) -/

section
variable {req rep : Nat}

theorem drive_of_gt (h : req > rep) : drive req rep = .day := if_pos h

theorem drive_of_lt (h : req < rep) : drive req rep = .night := by
  rw [drive, if_neg h.not_gt, if_pos h]

theorem drive_self (req : Nat) :
    drive req req = if 0 < req ∧ req < 100 then .hold else if req = 100 then .day else .night := by
  rw [drive, if_neg (lt_irrefl req), if_neg (lt_irrefl req)]

/-- The damper rests only where request and report agree strictly between the end stops. -/
theorem drive_eq_hold_iff : drive req rep = .hold ↔ rep = req ∧ 0 < req ∧ req < 100 := by
  rcases lt_trichotomy req rep with h | rfl | h
  · simp [drive_of_lt h, h.ne']
  · rw [drive_self]
    split_ifs <;> simp_all
  · simp [drive_of_gt h, h.ne]

end

/-- Settles O18, by the order of request and report. -/
theorem drivePolicy : Obligations.DrivePolicy := by
  intro req rep
  refine ⟨drive_of_gt, drive_of_lt, ?_, ?_, ?_, ?_⟩
  · rintro rfl hpos hlt
    exact drive_eq_hold_iff.2 ⟨rfl, hpos, hlt⟩
  · rintro rfl rfl
    rfl
  · rintro rfl rfl
    rfl
  · intro _ hmod hhold
    obtain ⟨rfl, hpos, hlt⟩ := drive_eq_hold_iff.1 hhold
    exact ⟨hmod, hpos, hlt, rfl⟩

/-! ### The relay lines (R506) -/

theorem applyZone_hold (s : State) :
    applyZone .hold s = { s with lines.damperStop := true, damper.adjusting := false,
                                 trace := s.trace ++ [.line .damperStop true] } := rfl

/-- The common writes of the two driving zones: the zone line, then the release of the stop line. -/
theorem writeZone_releaseStop (v : Bool) (s : State) :
    writeLine .damperStop false (writeLine .damperZone v s) =
      { s with lines.damperZone := v, lines.damperStop := false,
               trace := s.trace ++ [.line .damperZone v, .line .damperStop false] } := by
  simp [writeLine, emit]

/-- Settles O19: one line for holding, two in order for each driving zone. -/
theorem applyZoneLines : Obligations.ApplyZoneLines := fun s =>
  ⟨applyZone_hold s, by rw [applyZone, writeZone_releaseStop], by rw [applyZone, writeZone_releaseStop]⟩

/-! ### The adjustment step (R507, R508) -/

/-- R508: with inverted references the step records the reading, raises the condition and holds. -/
theorem damperAdjust_of_inverted {s : State} (h : s.damper.nightRef.toNat ≤ s.damper.dayRef.toNat) :
    damperAdjust s = applyZone .hold
      (raise (.linearizerFault s.damper.dayRef.toNat s.damper.nightRef.toNat)
        { (readRaw s).2 with damper.raw := s.damper.raw.write (readRaw s).1 }) := by
  simp only [damperAdjust, readRaw_eq, if_pos h]

/-- R507: with sound references the step records the reading and its percentage and drives. -/
theorem damperAdjust_of_ordered {s : State} (h : s.damper.dayRef.toNat < s.damper.nightRef.toNat) :
    let rep := BitVec.ofNat 7 (linearize s.cfg (readRaw s).1 s.damper.dayRef.toNat s.damper.nightRef.toNat)
    damperAdjust s = applyZone (drive s.damper.req.toNat rep.toNat)
      { (readRaw s).2 with damper.raw := s.damper.raw.write (readRaw s).1, damper.reported := rep } := by
  simp only [damperAdjust, readRaw_eq, if_neg h.not_ge]

/-- Settles O20, by the order of the two references. -/
theorem damperAdjustStep : Obligations.DamperAdjustStep := by
  intro s
  refine ⟨fun hw => ?_, fun h => ?_, fun h => ?_⟩
  · exact Reg.toNat_write_of_lt (hw ▸ combine_lt s.cfg _ _)
  · rw [damperAdjust_of_inverted h, applyZone_hold, readRaw_eq]
    simp [raise, emit, Condition.event, Condition.code, Condition.info]
  · rw [damperAdjust_of_ordered h, readRaw_eq]

/-! ### The calibration (R509) -/

/-- Settles O21: the second half continues from the whole state the first half leaves, whose next draw is the second
one. -/
theorem calibrateResult : Obligations.CalibrateResult := by
  intro s n s1 d night day raw
  obtain ⟨hdraw, hinp⟩ := sample_congr (s := s1) (u := calibrateNight s) (by rw [calibrateNight_eq])
    (by rw [calibrateNight_eq])
  rw [calibrate, calibrateDay_eq, hdraw, hinp, calibrateNight_eq]
  simp [n, s1, d, night, day, raw]

end Sys2Proof.Machine
end

section
/-! PROOFS. The commands (42_mode_commands.md R600 to R613): the frame that no command leaves, and the whole next state
of each command. -/

namespace Sys2Proof.Machine

section
variable {i : Instr} {s t : State}

/-! ### The frame of the shared operations -/

theorem offTransition_frame (s : State) : CommandFrame s (offTransition s) := by
  rw [offTransition_eq]
  constructor <;> rfl

/-- R615: of the four lines only the two enable lines can change, and only outside remote operation. -/
theorem enableRemote_frame (s : State) : CommandFrame s (enableRemote s) := by
  rw [enableRemote_eq]
  cases s.flags.remoteOperation <;> constructor <;> rfl

theorem applyMode_frame (m t f : Byte) (h c fn : Bool) (v : FanSpeed) (s : State) :
    CommandFrame s (applyMode m t f h c fn v s) := by constructor <;> rfl

theorem applyFanSpeed_frame (f : Byte) (v : FanSpeed) (s : State) : CommandFrame s (applyFanSpeed f v s) := by
  constructor <;> rfl

theorem setReq_frame (p : Percent) (s : State) : CommandFrame s { s with damper.req := p } := by constructor <;> rfl

theorem emit_frame (e : Event) (s : State) : CommandFrame s (emit e s) := by constructor <;> rfl

theorem watchdogAck_frame (s : State) : CommandFrame s (watchdogAck s) := by constructor <;> rfl

/-! ### Every command -/

theorem exec_completes (i : Instr) (s : State) : ∃ t, exec i s = .next t := by
  cases i <;> exact ⟨_, rfl⟩

theorem exec_frame (h : exec i s = .next t) : CommandFrame s t := by
  cases i <;> cases h
  case off => exact offTransition_frame s
  case ventilate | thermoHeat | thermoCool => exact (enableRemote_frame s).trans (applyMode_frame ..)
  case thermoAuto => exact .refl s
  case heatMode | coolMode | fanMode => exact applyMode_frame ..
  case fanHi | fanMed | fanLo => exact applyFanSpeed_frame ..
  case damperPercent n =>
    split
    · exact setReq_frame _ s
    · exact raise_frame _ s
  case updateStatus => exact emit_frame _ s
  case heartbeatAck => exact watchdogAck_frame s

end

/-- Settles O30, from the frame of each command; the trace grows because every command evolves the state. -/
theorem commandsCompleteInFrame : Obligations.CommandsCompleteInFrame := by
  intro i s
  obtain ⟨t, ht⟩ := exec_completes i s
  exact ⟨t, ht, exec_frame ht, (exec_evolves ht).trace⟩

/-! ### The mode commands (R600 to R607) -/

/-- Settles O22: the command is the transition. -/
theorem offResult : Obligations.OffResult := fun s => congrArg Host.Outcome.next (offTransition_eq s)

/-- R601 to R603, R615: the remote enable and then the common end of a mode command, whole. -/
theorem applyMode_enableRemote (m t f : Byte) (h c fn : Bool) (v : FanSpeed) (s : State) :
    applyMode m t f h c fn v (enableRemote s) =
      let fl := { s.flags with remoteOperation := true, heat := h, cool := c, fanOn := fn, fanHi := decide (v = .hi)
                               fanMed := decide (v = .med), fanLo := decide (v = .lo) }
      { s with
        out := ⟨m, t, f⟩, flags := fl
        lines := if s.flags.remoteOperation then s.lines else { s.lines with remoteEn := true, damperEn := true }
        ctl.drainCnt := if s.ctl.term = .none then s.ctl.drainCnt.write 0 else s.ctl.drainCnt
        trace := s.trace ++ (if s.flags.remoteOperation then []
            else [.line .remoteEn true, .line .damperEn true, .wait .remoteSettle]) ++
          [.status (statusRec { s with flags := fl })] } := by
  rw [applyMode_eq, enableRemote_eq]
  rfl

/-- Settles O23: three uses of one operation. -/
theorem remoteModesResult : Obligations.RemoteModesResult := fun s =>
  ⟨congrArg Host.Outcome.next (applyMode_enableRemote _ _ _ false false true .hi s),
    congrArg Host.Outcome.next (applyMode_enableRemote _ _ _ false false true .lo s),
    congrArg Host.Outcome.next (applyMode_enableRemote _ _ _ false false true .lo s)⟩

/-- Settles O24: the command answers the state it was given. -/
theorem thermoAutoNoOp : Obligations.ThermoAutoNoOp := fun _ => rfl

/-- Settles O25: three uses of the common end of a mode command, without the remote enable. -/
theorem localModesResult : Obligations.LocalModesResult := fun s =>
  ⟨congrArg Host.Outcome.next (applyMode_eq _ _ _ true false false .hi s),
    congrArg Host.Outcome.next (applyMode_eq _ _ _ false true false .hi s),
    congrArg Host.Outcome.next (applyMode_eq _ _ _ false false true .lo s)⟩

/-! ### The fan-speed commands (R608 to R610) -/

theorem applyFanSpeed_eq (f : Byte) (v : FanSpeed) (s : State) :
    applyFanSpeed f v s =
      let fl := { s.flags with fanHi := decide (v = .hi), fanMed := decide (v = .med), fanLo := decide (v = .lo) }
      { s with out.fan := f, flags := fl, trace := s.trace ++ [.status (statusRec { s with flags := fl })] } := rfl

/-- Settles O26: the three speeds of one operation. -/
theorem fanSpeedResult : Obligations.FanSpeedResult := fun s =>
  ⟨congrArg Host.Outcome.next (applyFanSpeed_eq _ .hi s), congrArg Host.Outcome.next (applyFanSpeed_eq _ .med s),
    congrArg Host.Outcome.next (applyFanSpeed_eq _ .lo s)⟩

/-! ### The damper, status and liveness commands (R611 to R613) -/

section
variable {n : Nat}

theorem exec_damperPercent_of_le (s : State) (h : n ≤ 100) :
    exec (.damperPercent n) s = .next { s with damper.req := BitVec.ofNat 7 n } := by
  simp [exec, execDamperPercent, legalPercent, h]

theorem exec_damperPercent_of_gt (s : State) (h : 100 < n) :
    exec (.damperPercent n) s = .next (raise (.badArgument n) s) := by
  simp [exec, execDamperPercent, legalPercent, h.not_ge]

end

/-- Settles O27, one clause for each side of 100; a legal percentage fits seven bits. -/
theorem damperPercentResult : Obligations.DamperPercentResult := fun s _ =>
  ⟨fun h => ⟨exec_damperPercent_of_le s h, percent_toNat_ofNat h⟩, exec_damperPercent_of_gt s⟩

/-- Settles O28: the command is one notification. -/
theorem updateStatusResult : Obligations.UpdateStatusResult := fun _ => rfl

/-- Settles O29: the command is the acknowledgment, and 0 fits any width. -/
theorem heartbeatAckResult : Obligations.HeartbeatAckResult := fun s => ⟨rfl, by simp⟩

end Sys2Proof.Machine
end

section
/-! PROOFS. The dispatch of command words and the observations (42_mode_commands.md R614, R616, R617;
70_reset_and_hazards.md R1008). -/

namespace Sys2Proof.Machine

section
variable {cw : Word} {s : State}

/-! ### One word (R616, R308) -/

theorem dispatch_of_decode_ok {i : Instr} (hterm : s.ctl.term = .none) (h : decode cw = .ok i) :
    dispatch cw s = exec i s := by
  simp [dispatch, hterm, h]

theorem dispatch_of_unknown (hterm : s.ctl.term = .none) (h : 0x0E ≤ (cwCode cw).toNat) :
    dispatch cw s = .next (raise (.unknownService (cwCode cw)) s) := by
  simp [dispatch, hterm, decode_eq_error_iff.2 ⟨h, rfl⟩]

theorem dispatch_of_terminal (cw : Word) (hterm : s.ctl.term ≠ .none) :
    dispatch cw s = .next (raise (.commandIgnored cw) s) := if_neg hterm

/-! ### The queue (R802, R1008) -/

/-- R1008: one turn of the loop with a terminal sequence pending; `TERM` stays, so the next word meets the same
discard. -/
theorem drainWords_cons_of_terminal (ws : List Word) (hterm : s.ctl.term ≠ .none) :
    drainWords (cw :: ws) s = drainWords ws { s with
      ctl.cmdq := s.ctl.cmdq.tail
      trace := s.trace ++ [.diag 9 (.command cw)] } :=
  congrArg (andThen · (drainWords ws)) (dispatch_of_terminal (s := { s with ctl.cmdq := s.ctl.cmdq.tail }) cw hterm)

theorem drainWords_of_terminal (ws : List Word) (hterm : s.ctl.term ≠ .none) :
    drainWords ws s = .next { s with
      ctl.cmdq := s.ctl.cmdq.drop ws.length
      trace := s.trace ++ ws.map (fun cw => .diag 9 (.command cw)) } := by
  induction ws generalizing s with
  | nil => simp [drainWords]
  | cons cw ws ih =>
    rw [drainWords_cons_of_terminal ws hterm, ih]
    · simp
    · exact hterm

end

/-- Settles O32, from the three outcomes of one dispatch. -/
theorem dispatchRejections : Obligations.DispatchRejections := fun cw _ =>
  ⟨dispatch_of_unknown, dispatch_of_terminal cw, fun hterm _ => dispatch_of_decode_ok hterm⟩

/-- Settles O36: the loop over the whole queue. -/
theorem terminalDiscardsQueue : Obligations.TerminalDiscardsQueue := by
  intro s hterm
  rw [drainCommands, drainWords_of_terminal _ hterm, List.drop_length]

/-! ### The observations (R614, R617) -/

/-- Settles O42: three writes of observed flags, each with a notification on its edge. -/
theorem observeEdges : Obligations.ObserveEdges := by
  intro v s f1 f2 f3
  simp only [observe, setObs_eq, eq_comm (a := ModeState.getObs _ _)]
  rfl

end Sys2Proof.Machine
end

section
/-! PROOFS. The heartbeat watchdog (43_watchdog.md R700 to R702, R704): one tick in each case, and any number of ticks
from a zero count. -/

namespace Sys2Proof.Machine

section
variable {s : State} {k : Nat}

/-! ### One tick (R700 to R702) -/

/-- The count of a tick (R700) with the heartbeat that goes with it (R701), before the comparison. -/
def countTick (s : State) : State :=
  { s with
    hb.cnt := nextCount s
    trace := s.trace ++ (if (nextCount s).toNat = s.cfg.hbEmit then [.heartbeat] else []) }

theorem watchdogTick_of_terminal (hterm : s.ctl.term ≠ .none) : watchdogTick s = s := if_neg hterm

theorem watchdogTick_of_running (hterm : s.ctl.term = .none) : watchdogTick s = compareCount (countTick s) := by
  refine (if_pos hterm).trans (congrArg compareCount ?_)
  by_cases hbeat : (nextCount s).toNat = s.cfg.hbEmit
  · rw [countTick, if_pos hbeat]
    exact if_pos hbeat
  · rw [countTick, if_neg hbeat, List.append_nil]
    exact if_neg hbeat

theorem watchdogTick_of_count_le (hterm : s.ctl.term = .none) (hle : (nextCount s).toNat ≤ s.cfg.hbLost) :
    watchdogTick s = countTick s :=
  (watchdogTick_of_running hterm).trans (if_neg hle.not_gt)

theorem watchdogTick_of_count_gt (hterm : s.ctl.term = .none) (hgt : s.cfg.hbLost < (nextCount s).toNat) :
    watchdogTick s = linkLost (countTick s) :=
  (watchdogTick_of_running hterm).trans (if_pos hgt)

/-- The link-lost sequence (R702), whole. -/
theorem linkLost_eq (s : State) :
    linkLost s =
      let f := { s.flags with malfunction := true, heat := false, cool := false, fanOn := false, fanHi := false,
                              fanMed := false, fanLo := false }
      { s with
        hb.missed := true, out.mode := s.cfg.modeOff, flags := f, ctl.term := .fatal
        ctl.drainCnt := s.ctl.drainCnt.write s.cfg.offDrainCycles
        trace := s.trace ++ [.diag 4 (.number s.hb.cnt.toNat), .status (statusRec { s with flags := f })] } := by
  rw [linkLost, enterTerminal_eq, offTransition_eq]
  simp only [raise, emit, List.append_assoc]
  rfl

/-- Under the width of R105 a legal count is held without a cut. -/
theorem toNat_write_hbCnt {n : Nat} (hwidth : s.hb.cnt.width = s.cfg.hbCntWidth) (hn : n ≤ s.cfg.hbLost + 1) :
    (s.hb.cnt.write n).toNat = n :=
  Reg.toNat_write_of_lt (hwidth ▸ s.cfg.lt_hbCntWidth hn)

/-! ### Any number of ticks from a zero count (R704) -/

theorem hbEmit_le_hbLost {c : Cfg} (h : c.wf = true) : c.hbEmit ≤ c.hbLost := by
  simp only [Cfg.wf, Cfg.heartbeatOrdered, Bool.and_eq_true, decide_eq_true_eq] at h
  obtain ⟨-, hordered, -⟩ := h
  exact hordered

/-- `k` counts from a zero count: the heartbeat is out from the `HB_EMIT`-th on. -/
def counted (s : State) (k : Nat) : State :=
  { s with
    hb.cnt := s.hb.cnt.write k
    trace := s.trace ++ (if 1 ≤ s.cfg.hbEmit ∧ s.cfg.hbEmit ≤ k then [.heartbeat] else []) }

theorem counted_zero (hzero : s.hb.cnt.write 0 = s.hb.cnt) : counted s 0 = s := by
  have hnone : ¬ (1 ≤ s.cfg.hbEmit ∧ s.cfg.hbEmit ≤ 0) := by omega
  rw [counted, hzero, if_neg hnone, List.append_nil]

theorem nextCount_counted (hwidth : s.hb.cnt.width = s.cfg.hbCntWidth) (hk : k ≤ s.cfg.hbLost) :
    nextCount (counted s k) = s.hb.cnt.write (k + 1) :=
  congrArg (fun n => s.hb.cnt.write (n + 1)) (toNat_write_hbCnt hwidth (Nat.le_succ_of_le hk))

theorem toNat_nextCount_counted (hwidth : s.hb.cnt.width = s.cfg.hbCntWidth) (hk : k ≤ s.cfg.hbLost) :
    (nextCount (counted s k)).toNat = k + 1 :=
  (congrArg Reg.toNat (nextCount_counted hwidth hk)).trans (toNat_write_hbCnt hwidth (Nat.succ_le_succ hk))

/-- R701, R704: the heartbeat is out after `k + 1` ticks exactly when it was out after `k` or the last tick emits it. -/
theorem heartbeat_append (e k : Nat) :
    (if 1 ≤ e ∧ e ≤ k then [Event.heartbeat] else []) ++ (if k + 1 = e then [.heartbeat] else []) =
      if 1 ≤ e ∧ e ≤ k + 1 then [.heartbeat] else [] := by
  rcases Nat.lt_trichotomy (k + 1) e with hlt | rfl | hgt
  · simp [show ¬ e ≤ k by omega, show ¬ e ≤ k + 1 by omega, hlt.ne]
  · simp
  · simp [show e ≤ k by omega, show e ≤ k + 1 by omega, hgt.ne']

theorem countTick_counted (hwidth : s.hb.cnt.width = s.cfg.hbCntWidth) (hk : k ≤ s.cfg.hbLost) :
    countTick (counted s k) = counted s (k + 1) := by
  rw [countTick, toNat_nextCount_counted hwidth hk, nextCount_counted hwidth hk]
  have htrace :
      (counted s k).trace ++ (if k + 1 = s.cfg.hbEmit then [.heartbeat] else []) = (counted s (k + 1)).trace :=
    (List.append_assoc _ _ _).trans (congrArg (s.trace ++ ·) (heartbeat_append s.cfg.hbEmit k))
  exact congrArg (fun evs => { counted s (k + 1) with trace := evs }) htrace

/-- Up to `HB_LOST` a tick only counts. -/
theorem watchdogTick_iterate_of_le (hterm : s.ctl.term = .none) (hwidth : s.hb.cnt.width = s.cfg.hbCntWidth)
    (hzero : s.hb.cnt.write 0 = s.hb.cnt) (hk : k ≤ s.cfg.hbLost) : watchdogTick^[k] s = counted s k := by
  induction k with
  | zero => exact (counted_zero hzero).symm
  | succ k ih =>
    have hprev : k ≤ s.cfg.hbLost := Nat.le_of_succ_le hk
    have hcount : (nextCount (counted s k)).toNat ≤ s.cfg.hbLost := (toNat_nextCount_counted hwidth hprev).trans_le hk
    rw [Function.iterate_succ_apply', ih hprev, watchdogTick_of_count_le (s := counted s k) hterm hcount,
      countTick_counted hwidth hprev]

/-- The tick after `HB_LOST` loses the link, and with `TERM` at `FATAL` no later tick does anything. -/
theorem watchdogTick_iterate_of_gt (hterm : s.ctl.term = .none) (hwidth : s.hb.cnt.width = s.cfg.hbCntWidth)
    (hzero : s.hb.cnt.write 0 = s.hb.cnt) (hk : s.cfg.hbLost < k) :
    watchdogTick^[k] s = linkLost (counted s (s.cfg.hbLost + 1)) := by
  induction k, hk using Nat.le_induction with
  | base =>
    have hcount : s.cfg.hbLost < (nextCount (counted s s.cfg.hbLost)).toNat :=
      (Nat.lt_succ_self _).trans_eq (toNat_nextCount_counted hwidth le_rfl).symm
    rw [Function.iterate_succ_apply', watchdogTick_iterate_of_le hterm hwidth hzero le_rfl,
      watchdogTick_of_count_gt (s := counted s s.cfg.hbLost) hterm hcount, countTick_counted hwidth le_rfl]
  | succ k _ ih =>
    rw [Function.iterate_succ_apply', ih]
    exact watchdogTick_of_terminal (by simp [linkLost_eq])

end

/-- Settles O33, by the three branches of a tick. -/
theorem watchdogTickCases : Obligations.WatchdogTickCases := fun s =>
  ⟨fun hwidth hle => toNat_write_hbCnt hwidth (Nat.succ_le_succ hle), watchdogTick_of_terminal,
    watchdogTick_of_count_le, fun hterm hgt => (watchdogTick_of_count_gt hterm hgt).trans (linkLost_eq (countTick s))⟩

/-- Settles O34, from the ticks up to `HB_LOST` and those beyond it; a legal `HB_EMIT` comes before the loss. -/
theorem watchdogFiresOnce : Obligations.WatchdogFiresOnce := by
  intro s hwf hterm hcnt
  have hwidth : s.hb.cnt.width = s.cfg.hbCntWidth := by rw [hcnt, Reg.width_ofNat]
  have hzero : s.hb.cnt.write 0 = s.hb.cnt := by rw [hcnt, Reg.write_ofNat]
  have hemit : s.cfg.hbEmit ≤ s.cfg.hbLost + 1 := Nat.le_succ_of_le (hbEmit_le_hbLost hwf)
  refine ⟨fun k hk => watchdogTick_iterate_of_le hterm hwidth hzero hk, fun k hk => ?_⟩
  rw [watchdogTick_iterate_of_gt hterm hwidth hzero hk]
  simp only [counted, hemit, and_true]

end Sys2Proof.Machine
end

section
/-! PROOFS. What the two outbound packets share (40_packet_codec.md R403; 44_control_loop.md R812). -/

namespace Sys2Proof.Machine

/-- R812: the sequence number and the trailer touch none of the bytes 2, 4 and 5. -/
theorem encode1_encode3_fields (c : Cfg) (q : Word) (m t f : Byte) :
    (encode1 c m t f)[2]? = (encode3 c q m t f)[2]? ∧ (encode1 c m t f)[4]? = (encode3 c q m t f)[4]? ∧
      (encode1 c m t f)[5]? = (encode3 c q m t f)[5]? := by
  obtain ⟨-, -, -, hmode₁, -, hsp₁, hfan₁, -⟩ := encode1_hasLayout c m t f
  obtain ⟨-, -, -, hmode₃, -, hsp₃, hfan₃, -⟩ := encode3_hasLayout c q m t f
  exact ⟨hmode₁.trans hmode₃.symm, hsp₁.trans hsp₃.symm, hfan₁.trans hfan₃.symm⟩

/-- R403: `SEQ` is Packet1's header after a reset, so with equal trailers the two bodies are the same bytes. -/
theorem packet3Body_resetWith {c : Cfg} (h : c.p3Trailer = c.p1Trailer) (m t f : Byte) :
    packet3Body c (State.resetWith c).seq m t f = packet1Body c m t f := by
  have hhigh : seqHigh (State.resetWith c).seq = c.p1Header.1 := BitVec.extractLsb'_append_eq_left
  have hlow : seqLow (State.resetWith c).seq = c.p1Header.2 := BitVec.extractLsb'_append_eq_right
  rw [packet3Body, packet1Body, hhigh, hlow, h]

/-- Settles O8: the layouts agree at the three bytes, and equal bodies have equal checksums. -/
theorem packetsAgree : Obligations.PacketsAgree := by
  intro c q m t f
  obtain ⟨hmode, hsp, hfan⟩ := encode1_encode3_fields c q m t f
  refine ⟨hmode, hsp, hfan, fun h => ?_⟩
  rw [encode3, encode1, packet3Body_resetWith h]

end Sys2Proof.Machine
end

section
/-! PROOFS. Phase PH1 (44_control_loop.md R800, R802) and the steps that end a run: the order of the queued words, the
command a step runs, and the halted machine (R801, R813). -/

namespace Sys2Proof.Machine

section
variable {s t : State}

/-! ### The queue (R802) -/

/-- R802: two lists drained one after the other. -/
theorem drainWords_append (a b : List Word) (s : State) :
    drainWords (a ++ b) s = andThen (drainWords a s) (drainWords b) := by
  induction a generalizing s with
  | nil => rfl
  | cons cw a ih =>
    have hrest : drainWords (a ++ b) = fun u => andThen (drainWords a u) (drainWords b) := funext ih
    rw [List.cons_append, drainWords, hrest, drainWords, andThen_assoc]

/-- R802: the drain completes, and as many words are dequeued as were present. -/
theorem drainCommands_empties (s : State) : ∃ t, drainCommands s = .next t ∧ t.ctl.cmdq = [] := by
  obtain ⟨t, ht, hframe, -⟩ := drainWords_frame s.ctl.cmdq s
  exact ⟨t, ht, hframe.cmdq.trans (List.drop_length ..)⟩

end

/-- Settles O35: the loop's own equations, its composition law, and the frame of a drain. -/
theorem commandsApplyInOrder : Obligations.CommandsApplyInOrder :=
  ⟨fun _ => rfl, fun _ => rfl, fun _ _ _ => rfl, drainWords_append, drainCommands_empties⟩

section
variable {s t : State}

/-! ### One cycle of a running machine (R800) -/

/-- R800, R801: a running machine runs the whole cycle. -/
theorem step_of_running (h : Running s) :
    step s = andThen (phase1 (phase0 s)) (fun u => .next (afterCommands u)) := by
  rw [step_of_not_resetPending h.cfgWf h.resetPending, cycle, h.phase]
  simp [h.halted]

/-- R801: without a request, or with a terminal sequence pending already, PH0 only moves on. -/
theorem phase0_of_no_shutdown (h : s.inp.shutdownReq = false ∨ s.ctl.term ≠ .none) :
    phase0 s = { s with ctl.phase := .ph1 } := by
  have hno : ¬ (s.inp.shutdownReq = true ∧ s.ctl.term = .none) := by
    rintro ⟨hreq, hterm⟩
    obtain hlow | hpending := h
    · cases hreq.symm.trans hlow
    · exact hpending hterm
  rw [phase0, if_neg hno]

/-- R800, R802: where PH0 only moves on, a step is the drain of the queue and the rest of the cycle. -/
theorem step_of_no_shutdown (h : Running s) (hno : s.inp.shutdownReq = false ∨ s.ctl.term ≠ .none) :
    step s = andThen (drainCommands { s with ctl.phase := .ph1 })
      (fun u => .next (afterCommands { u with ctl.phase := .ph2 })) := by
  rw [step_of_running h, phase0_of_no_shutdown hno, phase1, andThen_assoc]
  rfl

/-- R801, R813: a halted machine stays as it is. -/
theorem step_of_halted (hwf : s.cfg.wf = true) (hphase : s.ctl.phase = .ph0) (hboot : s.ctl.resetPending = false)
    (hhalt : s.ctl.halted = true) : step s = .next s := by
  rw [step_of_not_resetPending hwf hboot, cycle, hphase]
  simp [hhalt]

end

/-- Settles O37: PH0 only moves on, and the drain begins with the dispatch of the oldest word, which runs its command. -/
theorem stepRunsDecodedCommand : Obligations.StepRunsDecodedCommand := by
  intro s t cw rest i hrun hreq hterm hqueue hdecode hexec
  have hhead : dispatch cw { s with ctl.phase := .ph1, ctl.cmdq := rest } = .next t :=
    (dispatch_of_decode_ok (s := { s with ctl.phase := .ph1, ctl.cmdq := rest }) hterm hdecode).trans hexec
  have hdrain : drainCommands { s with ctl.phase := .ph1 } = drainWords rest t := by
    simp only [drainCommands, hqueue, drainWords, List.tail_cons, hhead, andThen_next]
  rw [step_of_no_shutdown hrun (.inl hreq), hdrain]

/-- Settles O39, by induction on the number of steps. -/
theorem haltedIsFinal : Obligations.HaltedIsFinal := by
  intro s k hwf hphase hboot hhalt
  induction k with
  | zero => rfl
  | succ k ih => rw [run_succ_of_step (step_of_halted hwf hphase hboot hhalt), ih]

end Sys2Proof.Machine
end

section
/-! PROOFS. One exchange (44_control_loop.md R803 to R805, R811): the handling of a failed and of a valid reception, and
the whole exchange around it. -/

namespace Sys2Proof.Machine

section
variable {s : State} {f : Reception} {sent : Sent} {e : Event} {b : List Byte} {v : Packet2}

/-! ### The handling of a reception (R804) -/

/-- R804: a failed reception raises its condition and sets `malfunction`. -/
theorem rxOutcome_of_failure (h : receptionFailure s.cfg f = some e) :
    rxOutcome f sent s = (false, setObs .malfunction true (emit e s)) := by
  cases f with
  | frameNotFound | short b => cases h; rfl
  | frame b =>
    cases hdecode : decodePacket2 s.cfg b with
    | none =>
      simp only [receptionFailure, hdecode, Option.some.injEq] at h
      subst h
      simp only [rxOutcome, hdecode]
      rfl
    | some v => simp [receptionFailure, hdecode] at h

theorem rxOutcome_of_valid (h : decodePacket2 s.cfg b = some v) :
    rxOutcome (.frame b) sent s = (true, acceptPacket2 v sent s) := by
  simp only [rxOutcome, h]

/-- The notification of R617 with the flags at `f`: there is one exactly when the observed flag changes. -/
def edgeStatus (old new : Bool) (f : ModeState) (s : State) : List Event :=
  if new = old then [] else [.status (statusRec { s with flags := f })]

/-- R804: `malfunction` after a valid Packet2. -/
def acceptedMalfunction (s : State) : Bool :=
  if s.cfg.malfClearOnValid = true ∧ s.hb.missed = false then false else s.flags.malfunction

/-- The end of the success arm (R804): clearing `malfunction`, where it is allowed, notifies on the edge. -/
theorem clearMalfunction_eq (s : State) :
    (if s.cfg.malfClearOnValid = true ∧ s.hb.missed = false then setObs .malfunction false s else s) = { s with
      flags.malfunction := acceptedMalfunction s
      trace := s.trace ++ edgeStatus s.flags.malfunction (acceptedMalfunction s)
        { s.flags with malfunction := acceptedMalfunction s } s } := by
  by_cases hclear : s.cfg.malfClearOnValid = true ∧ s.hb.missed = false
  · simp only [acceptedMalfunction, edgeStatus, if_pos hclear, setObs_eq, eq_comm (a := ModeState.getObs _ _)]
    rfl
  · simp only [acceptedMalfunction, edgeStatus, if_neg hclear, if_true, List.append_nil]

/-- The flags that a valid Packet2 leaves (R614, R804). -/
def acceptedFlags (v : Packet2) (s : State) : ModeState :=
  { s.flags with
    compressor := s.cfg.isCompressorOn v.compressor
    heating := s.cfg.isWarmup v.alerts
    filter := s.cfg.isFilter v.alerts
    malfunction := acceptedMalfunction s }

/-- The events of a valid Packet2 (R406, R614, R804): the warnings, and one notification per edge. -/
def acceptEvents (v : Packet2) (sent : Sent) (s : State) : List Event :=
  let f1 := { s.flags with compressor := s.cfg.isCompressorOn v.compressor }
  let f2 := { f1 with heating := s.cfg.isWarmup v.alerts }
  let f3 := { f2 with filter := s.cfg.isFilter v.alerts }
  mismatchEvents s.cfg v sent ++ edgeStatus s.flags.compressor f1.compressor f1 s ++
    edgeStatus s.flags.heating f2.heating f2 s ++ edgeStatus s.flags.filter f3.filter f3 s ++
    edgeStatus s.flags.malfunction (acceptedMalfunction s) (acceptedFlags v s) s

/-- The success arm of `RxOutcome` (R804), whole. -/
theorem acceptPacket2_eq (v : Packet2) (sent : Sent) (s : State) :
    acceptPacket2 v sent s = { s with
      rxTemp := v.temp, flags := acceptedFlags v s, trace := s.trace ++ acceptEvents v sent s } := by
  have hdiagnose := diagnoseWarnsInOrder v sent s
  have hobserve := observeEdges v (diagnose v sent s)
  rw [acceptPacket2, clearMalfunction_eq, hobserve, hdiagnose]
  simp only [acceptEvents, List.append_assoc]
  rfl

/-! ### The whole exchange (R803) -/

/-- The state in which an exchange handles its reception (R803): Packet1 is out, and the receive window has been read. -/
def received (s : State) : State :=
  { s with
    inp := { s.inp with
      rxWindow := (scanFrame s.cfg s.cfg.p2Len none (s.inp.rxLater.tail.headD [])).2
      rxLater := s.inp.rxLater.tail.tail }
    trace := s.trace ++ packet1Events s }

/-- R803 to R805: after the reception comes its handling, Packet3 if that is to be sent, and the final gap. -/
theorem exchange_eq (s : State) :
    exchange s = emit (.wait .finalGap)
      (let r := rxOutcome (exchangeReception s) (sentFields s) (received s)
       if r.1 then sendPacket3 (encode3 s.cfg s.seq s.out.mode s.out.sp s.out.fan) r.2 else r.2) := by
  simp only [exchange, transmitPacket1_eq, receiveFrame_eq]
  rfl

theorem exchange_of_failure (h : receptionFailure s.cfg (exchangeReception s) = some e) :
    exchange s = emit (.wait .finalGap) (setObs .malfunction true (emit e (received s))) := by
  rw [exchange_eq, rxOutcome_of_failure (s := received s) h]
  rfl

theorem exchange_of_valid (h : exchangeReception s = .frame b) (hdecode : decodePacket2 s.cfg b = some v) :
    exchange s = emit (.wait .finalGap) (sendPacket3 (encode3 s.cfg s.seq s.out.mode s.out.sp s.out.fan)
      (acceptPacket2 v (sentFields s) (received s))) := by
  rw [exchange_eq, h, rxOutcome_of_valid (s := received s) hdecode]
  rfl

end

/-- Settles O40: no Packet3 follows a failure, and `malfunction` notifies on its edge. -/
theorem failedExchange : Obligations.FailedExchange := by
  intro s e hfail
  refine ⟨(received s).inp.rxWindow, ?_⟩
  rw [exchange_of_failure hfail, setObs_eq]
  rfl

/-- Settles O41: the success arm, then the Packet3 rendered before reception. -/
theorem successfulExchange : Obligations.SuccessfulExchange := by
  intro s b v hframe hdecode f1 f2 f3 f4
  refine ⟨(received s).inp.rxWindow, ?_⟩
  rw [exchange_of_valid hframe hdecode, acceptPacket2_eq]
  simp only [emit, sendPacket3, acceptEvents, received, List.append_assoc]
  rfl

end Sys2Proof.Machine
end

section
/-! PROOFS. Phases PH3 and PH5 (44_control_loop.md R800, R806 to R810): the deactivation, the branches of PH3, and the
drain countdown with its ends, each as a whole state. -/

namespace Sys2Proof.Machine

section
variable {s : State}

/-! ### The branches of PH3 (R800, R806) -/

theorem branch3_of_remote (h : s.flags.remoteOperation = true) : branch3 s = damperAdjust (exchange s) := if_pos h

theorem branch3_of_torn_down (h : s.flags.remoteOperation = false) (hprev : s.ctl.remotePrev = true) :
    branch3 s = deactivate s := by
  simp [branch3, h, hprev]

theorem branch3_of_idle (h : s.flags.remoteOperation = false) (hprev : s.ctl.remotePrev = false) :
    branch3 s = emit (.wait .idle) s := by
  simp [branch3, h, hprev]

end

/-- Settles O44: PH3 is its branch, and then moves on. -/
theorem phase3Branches : Obligations.Phase3Branches := fun s => by
  refine ⟨fun hremote => ?_, fun hoff hprev => ?_, fun hoff hprev => ?_⟩
  · rw [phase3, branch3_of_remote hremote]
  · rw [phase3, branch3_of_torn_down hoff hprev]
  · rw [phase3, branch3_of_idle hoff hprev]; rfl

/-- Settles O45: the release of the lines, then the registers and the notification. -/
theorem deactivateResult : Obligations.DeactivateResult := fun s => by
  rw [deactivate, releaseLines_eq]; rfl

section
variable {s : State}

/-! ### The countdown (R808) -/

/-- One drain cycle is counted (R808). -/
def countDrain (s : State) : State := { s with ctl.drainCnt := s.ctl.drainCnt.write (s.ctl.drainCnt.toNat - 1) }

theorem drainStep_of_zero (h : s.ctl.drainCnt.toNat = 0) : drainStep s = s := by
  rw [drainStep, if_neg (by omega)]

theorem drainStep_of_one_lt (h : 1 < s.ctl.drainCnt.toNat) : drainStep s = countDrain s := by
  have hleft := s.ctl.drainCnt.toNat_write_pred
  have hpos : 0 < s.ctl.drainCnt.toNat := by omega
  have hgoesOn : ¬ (s.ctl.drainCnt.write (s.ctl.drainCnt.toNat - 1)).toNat = 0 := by omega
  rw [drainStep, if_pos hpos]
  exact if_neg hgoesOn

theorem drainStep_of_one (h : s.ctl.drainCnt.toNat = 1) : drainStep s = endDrain (countDrain s) := by
  have hleft := s.ctl.drainCnt.toNat_write_pred
  have hpos : 0 < s.ctl.drainCnt.toNat := by omega
  have hends : (s.ctl.drainCnt.write (s.ctl.drainCnt.toNat - 1)).toNat = 0 := by omega
  rw [drainStep, if_pos hpos]
  exact if_pos hends

/-! ### The ends of a drain (R808 to R810) -/

theorem endDrain_of_none (h : s.ctl.term = .none) : endDrain s = { s with flags.remoteOperation := false } := by
  rw [endDrain, h]

/-- R809, whole. -/
theorem endDrain_of_fatal (h : s.ctl.term = .fatal) :
    let f := { s.flags with remoteOperation := false, malfunction := s.hb.missed }
    endDrain s = { s with
      ctl.halted := true, flags := f, lines := releasedLines, damper.adjusting := false, hb.cnt := s.hb.cnt.write 0
      trace := s.trace ++ releaseEvents ++ [.status (statusRec { s with flags := f }), .restartNotice, .fatalRestart] } := by
  have hdeactivate := deactivateResult { s with flags.remoteOperation := false }
  simp only [endDrain, h, finishFatal, hdeactivate, emit, List.append_assoc]
  rfl

/-- R810, whole. -/
theorem endDrain_of_shutdown (h : s.ctl.term = .shutdown) :
    endDrain s = { s with
      ctl.halted := true, flags.remoteOperation := false, lines := releasedLines, damper.adjusting := false
      trace := s.trace ++ releaseEvents ++ [.close .sensor, .close .serial, .exit] } := by
  simp only [endDrain, h, finishShutdown, releaseLines_eq, emit, List.append_assoc]
  rfl

end

/-- Settles O46: the countdown before its end, and the end by `TERM`. -/
theorem drainStepCases : Obligations.DrainStepCases := by
  intro s d left
  have hleft : left.toNat = d - 1 := s.ctl.drainCnt.toNat_write_pred
  refine ⟨drainStep_of_zero, fun hmore => ⟨drainStep_of_one_lt hmore, hleft⟩, fun hone hterm => ?_, fun hone hterm => ?_,
    fun hone hterm => ?_⟩
  · exact ⟨(drainStep_of_one hone).trans (endDrain_of_none hterm), by omega⟩
  · exact (drainStep_of_one hone).trans (endDrain_of_fatal hterm)
  · exact (drainStep_of_one hone).trans (endDrain_of_shutdown hterm)

end Sys2Proof.Machine
end

section
/-! PROOFS. The sequence number over a step (44_control_loop.md R805, 70_reset_and_hazards.md R1010): only the exchange
can advance it, and the Packet3 of the number it had is then in the trace. -/

namespace Sys2Proof.Machine

/-! ### The two ways a part of a cycle treats `SEQ` -/

/-- `t` comes after `s` in a run, with `SEQ` as it was. -/
structure KeepsSeq (s t : State) : Prop where
  evolves : Evolves s t
  seq : t.seq = s.seq

/-- R805: `SEQ` stays, or advances once with its Packet3 in the trace. -/
def SeqContinues (s t : State) : Prop :=
  t.seq = s.seq ∨
    (t.seq = seqNext s.cfg s.seq ∧
      ∃ pre post m sp f, t.trace = s.trace ++ pre ++ [.serWrite (encode3 s.cfg s.seq m sp f)] ++ post)

section
variable {s t u : State}

theorem KeepsSeq.trans (h : KeepsSeq s u) (k : KeepsSeq u t) : KeepsSeq s t :=
  ⟨h.evolves.trans k.evolves, k.seq.trans h.seq⟩

theorem SeqContinues.after (k : SeqContinues u t) (h : KeepsSeq s u) : SeqContinues s t := by
  obtain ⟨pre₀, htrace₀⟩ := h.evolves.trace
  obtain hstays | ⟨hnext, pre, post, m, sp, f, htrace⟩ := k
  · exact .inl (hstays.trans h.seq)
  · rw [h.evolves.cfg, h.seq] at hnext htrace
    rw [htrace₀] at htrace
    exact .inr ⟨hnext, pre₀ ++ pre, post, m, sp, f, by simp [htrace]⟩

theorem SeqContinues.before (k : SeqContinues s u) (h : KeepsSeq u t) : SeqContinues s t := by
  obtain ⟨post₀, htrace₀⟩ := h.evolves.trace
  obtain hstays | ⟨hnext, pre, post, m, sp, f, htrace⟩ := k
  · exact .inl (h.seq.trans hstays)
  · refine .inr ⟨h.seq.trans hnext, pre, post ++ post₀, m, sp, f, ?_⟩
    rw [htrace₀, htrace, List.append_assoc]

/-! ### The parts of a cycle -/

theorem phase0_keepsSeq (s : State) : KeepsSeq s (phase0 s) := by
  refine ⟨phase0_evolves s, ?_⟩
  unfold phase0
  split
  · rw [shutdown, enterTerminal_eq]
  · rfl

/-- R802: no command writes `SEQ`. -/
theorem phase1_keepsSeq (h : phase1 s = .next t) : KeepsSeq s t := by
  refine ⟨phase1_evolves h, ?_⟩
  obtain ⟨u, hu, hframe, -⟩ := drainWords_frame s.ctl.cmdq s
  rw [phase1, drainCommands, hu] at h
  cases h
  exact hframe.seq

theorem phase2_keepsSeq (s : State) : KeepsSeq s (phase2 s) := by
  refine ⟨phase2_evolves s, ?_⟩
  change (watchdogTick s).seq = s.seq
  by_cases hterm : s.ctl.term = .none
  · rw [watchdogTick_of_running hterm, compareCount]
    split
    · rw [linkLost_eq]; rfl
    · rfl
  · rw [watchdogTick_of_terminal hterm]

theorem damperAdjust_keepsSeq (s : State) : KeepsSeq s (damperAdjust s) := by
  refine ⟨damperAdjust_evolves s, ?_⟩
  obtain ⟨raw, rep, stop, zone, adj, inp, evs, heq, -⟩ := damperAdjust_frame s
  rw [heq]

/-- R805: an exchange advances `SEQ` only with the Packet3 of the number it had. -/
theorem exchange_seqContinues (s : State) : SeqContinues s (exchange s) := by
  obtain ⟨w, rt, h, c, m, fi, q, evs, heq, -, hseq⟩ := exchange_frame s
  rw [heq]
  obtain rfl | ⟨rfl, pre, post, rfl⟩ := hseq
  · exact .inl rfl
  · exact .inr ⟨rfl, pre, post, s.out.mode, s.out.sp, s.out.fan, by simp⟩

theorem phase3_seqContinues (s : State) : SeqContinues s (phase3 s) := by
  change SeqContinues s (branch3 s)
  unfold branch3
  split
  · exact (exchange_seqContinues s).before (damperAdjust_keepsSeq _)
  · split
    · exact .inl (by rw [deactivate_eq])
    · exact .inl rfl

theorem endDrain_seq (s : State) : (endDrain s).seq = s.seq := by
  cases hterm : s.ctl.term with
  | none => rw [endDrain_of_none hterm]
  | fatal => rw [endDrain_of_fatal hterm]
  | shutdown => rw [endDrain_of_shutdown hterm]

theorem phase5_keepsSeq (s : State) : KeepsSeq s (phase5 s) := by
  refine ⟨phase5_evolves s, ?_⟩
  change (drainStep s).seq = s.seq
  obtain hzero | hone | hmore : s.ctl.drainCnt.toNat = 0 ∨ s.ctl.drainCnt.toNat = 1 ∨ 1 < s.ctl.drainCnt.toNat := by omega
  · rw [drainStep_of_zero hzero]
  · rw [drainStep_of_one hone, endDrain_seq]; rfl
  · rw [drainStep_of_one_lt hmore]; rfl

theorem afterCommands_seqContinues (s : State) : SeqContinues s (afterCommands s) :=
  have hph4 : KeepsSeq (phase3 (phase2 s)) (phase4 (phase3 (phase2 s))) := ⟨phase4_evolves _, rfl⟩
  ((phase3_seqContinues _).after (phase2_keepsSeq s)).before (hph4.trans (phase5_keepsSeq _))

end

/-- Settles O43: the phases before and after PH3 keep `SEQ`, and the exchange of PH3 continues it. -/
theorem sequenceContinuity : Obligations.SequenceContinuity := by
  intro s t hrun hstep
  rw [step_of_running hrun] at hstep
  obtain ⟨u, hcommands, hrest⟩ := andThen_eq_next.1 hstep
  cases hrest
  exact (afterCommands_seqContinues u).after ((phase0_keepsSeq s).trans (phase1_keepsSeq hcommands))

end Sys2Proof.Machine
end

section
/-! PROOFS. The drain over whole steps (44_control_loop.md R808 to R810, 70_reset_and_hazards.md R1005): a countdown over
any number of steps is proved once, and each kind of drain is a step lemma before the end and one at the end. -/

namespace Sys2Proof.Machine

/-! ### A countdown over a run -/

/-- A property that a step with more than one drain cycle left keeps, the count going down by one, and that the last step
turns into `Q`: it holds until the drain is over, and then `Q` does. -/
theorem run_countdown {P Q : State → Prop}
    (hmore : ∀ s, P s → 1 < s.ctl.drainCnt.toNat →
      ∃ t, step s = .next t ∧ P t ∧ t.ctl.drainCnt.toNat = s.ctl.drainCnt.toNat - 1)
    (hlast : ∀ s, P s → s.ctl.drainCnt.toNat = 1 → ∃ t, step s = .next t ∧ Q t)
    {s : State} {n : Nat} (hcount : s.ctl.drainCnt.toNat = n) (hpos : 0 < n) (h : P s) :
    (∀ j, j < n → ∃ u, run j s = .next u ∧ P u) ∧ ∃ t, run n s = .next t ∧ Q t := by
  induction n, hpos using Nat.le_induction generalizing s with
  | base =>
    obtain ⟨t, hstep, ht⟩ := hlast s h hcount
    refine ⟨fun j hj => ?_, t, run_succ_of_step hstep, ht⟩
    obtain rfl : j = 0 := by omega
    exact ⟨s, rfl, h⟩
  | succ n hpos ih =>
    obtain ⟨u, hstep, hu, hleft⟩ := hmore s h (by omega)
    obtain ⟨hbefore, hend⟩ := ih (s := u) (by omega) hu
    rw [run_succ_of_step hstep]
    refine ⟨fun j hj => ?_, hend⟩
    cases j with
    | zero => exact ⟨s, rfl, h⟩
    | succ j => rw [run_succ_of_step hstep]; exact hbefore j (by omega)

section
variable {s t r : State} {k : Term}

/-! ### A cycle up to PH5, in which a drain runs -/

/-- A sensor draw does not touch the host's level (R208, R902). -/
theorem sample_shutdownReq (s : State) : (sample s).2.inp.shutdownReq = s.inp.shutdownReq := by
  rw [sample_state]

/-- R803, R807: the exchange and the damper step write no sequencer, heartbeat or host register. -/
theorem exchangeAdjust_frame (s : State) :
    (damperAdjust (exchange s)).ctl = s.ctl ∧ (damperAdjust (exchange s)).hb = s.hb ∧
      (damperAdjust (exchange s)).inp.shutdownReq = s.inp.shutdownReq := by
  obtain ⟨_, _, _, _, _, inp, _, hadjust, -, -, hinp⟩ := damperAdjust_frame (exchange s)
  obtain ⟨_, _, _, _, _, _, _, _, hexchange, -⟩ := exchange_frame s
  have hreq : (exchange s).inp.shutdownReq = s.inp.shutdownReq := by rw [hexchange]
  have hctl : (exchange s).ctl = s.ctl := by rw [hexchange]
  have hhb : (exchange s).hb = s.hb := by rw [hexchange]
  rw [hadjust]
  exact ⟨hctl, hhb, (congrArg InputState.shutdownReq hinp).trans ((sample_shutdownReq _).trans hreq)⟩

/-- R800: the branch of PH3 writes no sequencer register, and leaves remote operation as it is. -/
theorem branch3_frame (s : State) :
    (branch3 s).ctl = s.ctl ∧ (branch3 s).flags.remoteOperation = s.flags.remoteOperation := by
  unfold branch3
  split
  · exact ⟨(exchangeAdjust_frame s).1, exchangeAdjust_remoteOperation s⟩
  · split
    · rw [deactivate_eq]; exact ⟨rfl, rfl⟩
    · exact ⟨rfl, rfl⟩

/-- The sequencer registers after PH3 and PH4 (R800). -/
theorem phase4_phase3_ctl (s : State) :
    (phase4 (phase3 s)).ctl = { s.ctl with remotePrev := s.flags.remoteOperation, phase := .ph5 } := by
  obtain ⟨hctl, hremote⟩ := branch3_frame s
  change { (branch3 s).ctl with remotePrev := (branch3 s).flags.remoteOperation, phase := .ph5 } = _
  rw [hctl, hremote]

/-- R800: a cycle whose PH1 leaves `u`, and whose tick then leaves `v`. -/
theorem step_of_commands_tick {u v : State} (hrun : Running s) (hno : s.inp.shutdownReq = false ∨ s.ctl.term ≠ .none)
    (hqueue : drainCommands { s with ctl.phase := .ph1 } = .next { u with ctl.phase := .ph1 })
    (htick : watchdogTick { u with ctl.phase := .ph2 } = { v with ctl.phase := .ph2 }) :
    step s = .next (phase5 (phase4 (phase3 { v with ctl.phase := .ph3 }))) := by
  rw [step_of_no_shutdown hrun hno, hqueue, andThen_next, afterCommands, phase2, htick]

/-- The step from `s` reaches PH5 in `r`: the queue is empty, and `DRAIN_CNT`, `TERM` and `HALTED` are still as in `s`. -/
structure ReachesDrain (s r : State) : Prop where
  step : step s = .next (phase5 r)
  ctl : r.ctl = { s.ctl with remotePrev := s.flags.remoteOperation, phase := .ph5, cmdq := [] }

/-! ### PH5 before the end of the drain, and at it (R808) -/

theorem phase5_of_one_lt (h : 1 < r.ctl.drainCnt.toNat) :
    phase5 r = { countDrain r with ctl.phase := .ph0 } := by
  rw [phase5, drainStep_of_one_lt h]

theorem phase5_frame_of_one_lt (h : 1 < r.ctl.drainCnt.toNat) :
    (phase5 r).flags = r.flags ∧ (phase5 r).hb = r.hb ∧ (phase5 r).inp = r.inp := by
  rw [phase5_of_one_lt h]
  exact ⟨rfl, rfl, rfl⟩

theorem phase5_of_one (h : r.ctl.drainCnt.toNat = 1) :
    phase5 r = { endDrain (countDrain r) with ctl.phase := .ph0 } := by
  rw [phase5, drainStep_of_one h]

theorem ReachesDrain.drainCnt (h : ReachesDrain s r) : r.ctl.drainCnt = s.ctl.drainCnt := by rw [h.ctl]

theorem ReachesDrain.term (h : ReachesDrain s r) : r.ctl.term = s.ctl.term := by rw [h.ctl]

/-- With more than one drain cycle left the machine runs on, with one less and the same `TERM`. -/
theorem ReachesDrain.goes_on (h : ReachesDrain s r) (hinv : s.Inv) (hrun : Running s)
    (hmore : 1 < s.ctl.drainCnt.toNat) :
    (phase5 r).Inv ∧ Running (phase5 r) ∧ (phase5 r).ctl.term = s.ctl.term ∧ (phase5 r).ctl.cmdq = [] ∧
      (phase5 r).ctl.drainCnt.toNat = s.ctl.drainCnt.toNat - 1 := by
  have hnext : (phase5 r).Inv := stepKeepsInvariant s _ hinv h.step
  have hctl : (phase5 r).ctl = { s.ctl with
      drainCnt := s.ctl.drainCnt.write (s.ctl.drainCnt.toNat - 1)
      remotePrev := s.flags.remoteOperation, phase := .ph0, cmdq := [] } := by
    rw [phase5_of_one_lt (h.drainCnt ▸ hmore), countDrain, h.ctl]
  have hrunning : Running (phase5 r) := by
    refine ⟨hnext.cfgWf, hnext.phase, ?_, ?_⟩ <;> rw [hctl]
    · exact hrun.resetPending
    · exact hrun.halted
  rw [hctl]
  exact ⟨hnext, hrunning, rfl, rfl, Reg.toNat_write_pred _⟩

end

/-! ### A pending terminal sequence (R808 to R810) -/

/-- Between cycles, with the terminal sequence `k` pending and not over. -/
structure TerminalPending (k : Term) (s : State) : Prop where
  inv : s.Inv
  running : Running s
  term : s.ctl.term = k

/-- The terminal sequence `k` is over: ACC is halted, and the sequence's last event ends the trace. -/
structure TerminalOver (k : Term) (t : State) : Prop where
  inv : t.Inv
  halted : t.ctl.halted = true
  term : t.ctl.term = k
  fatalRestart : k = .fatal → t.trace.getLast? = some .fatalRestart
  exit : k = .shutdown → t.trace.getLast? = some .exit

section
variable {s t : State} {k : Term}

/-- R616, R1008: every queued word reported and discarded. -/
def discarded (s : State) : State :=
  { s with ctl.cmdq := [], trace := s.trace ++ s.ctl.cmdq.map (fun cw => .diag 9 (.command cw)) }

/-- R616, R700: with a terminal sequence pending commands are discarded and the watchdog rests, so the cycle reaches PH5
with the drain as it was. -/
theorem terminal_reachesDrain (hrun : Running s) (hterm : s.ctl.term ≠ .none) :
    ReachesDrain s (phase4 (phase3 { discarded s with ctl.phase := .ph3 })) := by
  have hqueue : drainCommands { s with ctl.phase := .ph1 } = .next { discarded s with ctl.phase := .ph1 } :=
    terminalDiscardsQueue { s with ctl.phase := .ph1 } hterm
  have htick : watchdogTick { discarded s with ctl.phase := .ph2 } = { discarded s with ctl.phase := .ph2 } :=
    watchdogTick_of_terminal hterm
  exact ⟨step_of_commands_tick hrun (.inr hterm) hqueue htick, phase4_phase3_ctl _⟩

/-- R809, R810: the end of a drain with a terminal sequence pending halts, and the sequence's last event is out. -/
theorem endDrain_halts (hterm : s.ctl.term ≠ .none) :
    (endDrain s).ctl.halted = true ∧ (endDrain s).ctl.term = s.ctl.term ∧
      (s.ctl.term = .fatal → (endDrain s).trace.getLast? = some .fatalRestart) ∧
      (s.ctl.term = .shutdown → (endDrain s).trace.getLast? = some .exit) := by
  cases hk : s.ctl.term with
  | none => exact absurd hk hterm
  | fatal => rw [endDrain_of_fatal hk]; simp [hk]
  | shutdown => rw [endDrain_of_shutdown hk]; simp [hk]

theorem TerminalPending.goes_on (h : TerminalPending k s) (hk : k ≠ .none) (hmore : 1 < s.ctl.drainCnt.toNat) :
    ∃ t, step s = .next t ∧ TerminalPending k t ∧ t.ctl.drainCnt.toNat = s.ctl.drainCnt.toNat - 1 := by
  have hr := terminal_reachesDrain h.running (h.term ▸ hk)
  obtain ⟨hinv, hrunning, hterm, -, hleft⟩ := hr.goes_on h.inv h.running hmore
  exact ⟨_, hr.step, ⟨hinv, hrunning, hterm.trans h.term⟩, hleft⟩

theorem TerminalPending.ends (h : TerminalPending k s) (hk : k ≠ .none) (hone : s.ctl.drainCnt.toNat = 1) :
    ∃ t, step s = .next t ∧ TerminalOver k t := by
  have hr := terminal_reachesDrain h.running (h.term ▸ hk)
  generalize phase4 (phase3 { discarded s with ctl.phase := .ph3 }) = r at hr
  have hterm : r.ctl.term = k := hr.term.trans h.term
  have hinv : (phase5 r).Inv := stepKeepsInvariant s _ h.inv hr.step
  refine ⟨phase5 r, hr.step, ?_⟩
  rw [phase5_of_one (hr.drainCnt ▸ hone)] at hinv ⊢
  obtain ⟨hhalted, hkeeps, hfatal, hexit⟩ := endDrain_halts (s := countDrain r) (ne_of_eq_of_ne hterm hk)
  exact ⟨hinv, hhalted, hkeeps.trans hterm, fun hf => hfatal (hterm.trans hf), fun he => hexit (hterm.trans he)⟩

/-- R809, R810: a halted machine has released its lines. -/
theorem State.Inv.lines_of_halted (h : t.Inv) (hhalted : t.ctl.halted = true) : t.lines = releasedLines := by
  obtain ⟨-, -, hremoteEn, hdamperEn, hstop, hzone⟩ := h.haltedLines hhalted
  calc t.lines = ⟨t.lines.remoteEn, t.lines.damperEn, t.lines.damperStop, t.lines.damperZone⟩ := rfl
    _ = releasedLines := by rw [hremoteEn, hdamperEn, hstop, hzone, releasedLines]

end

/-- Settles O47: the countdown of a pending terminal sequence; the invariant gives the lines and `malfunction` at its
end. -/
theorem terminalSequenceHalts : Obligations.TerminalSequenceHalts := by
  intro s hinv hrun hterm
  obtain ⟨hbefore, t, hend, hover⟩ := run_countdown (P := TerminalPending s.ctl.term) (Q := TerminalOver s.ctl.term)
    (fun _ h => h.goes_on hterm) (fun _ h => h.ends hterm) rfl (hinv.draining hterm hrun.halted) ⟨hinv, hrun, rfl⟩
  refine ⟨fun j hj => ?_, t, hend, hover.halted, hover.term, hover.inv.lines_of_halted hover.halted, fun hfatal => ?_,
    hover.exit⟩
  · obtain ⟨u, hu, hpending⟩ := hbefore j hj
    exact ⟨u, hu, hpending.running.halted⟩
  · have hmissed : t.hb.missed = true := hover.inv.missed.2 (hover.term.trans hfatal)
    exact ⟨hover.fatalRestart hfatal, hover.inv.malfunction hmissed⟩

/-! ### An ordinary drain (R600, R808, R1005) -/

/-- Between cycles under remote operation, with an ordinary drain running, a silent supervisor, and enough heartbeat count
left for it. -/
structure OffPending (s : State) : Prop where
  inv : s.Inv
  running : Running s
  quiet : Quiet s
  term : s.ctl.term = .none
  remoteOperation : s.flags.remoteOperation = true
  hbLeft : s.hb.cnt.toNat + s.ctl.drainCnt.toNat ≤ s.cfg.hbLost

/-- The link is torn down, in a cycle that still saw it, without a halt. -/
structure TornDown (t : State) : Prop where
  remoteOperation : t.flags.remoteOperation = false
  remotePrev : t.ctl.remotePrev = true
  term : t.ctl.term = .none
  halted : t.ctl.halted = false

section
variable {s : State}

/-- The state in which PH5 begins: one tick counted, an exchange made and the damper adjusted. -/
def afterExchange (s : State) : State := phase4 (phase3 { countTick s with ctl.phase := .ph3 })

theorem OffPending.toNat_nextCount (h : OffPending s) (hpos : 0 < s.ctl.drainCnt.toNat) :
    (nextCount s).toNat = s.hb.cnt.toNat + 1 := by
  have hleft := h.hbLeft
  exact h.inv.sized.hbCnt_write (by omega)

/-- R700, R802: without a command and below `HB_LOST`, the cycle only counts before its exchange. -/
theorem OffPending.step_eq (h : OffPending s) (hpos : 0 < s.ctl.drainCnt.toNat) :
    step s = .next (phase5 (afterExchange s)) := by
  have hcount : (nextCount s).toNat ≤ s.cfg.hbLost := by
    have hleft := h.hbLeft
    rw [h.toNat_nextCount hpos]
    omega
  have hqueue : drainCommands { s with ctl.phase := .ph1 } = .next { s with ctl.phase := .ph1 } := by
    rw [drainCommands, h.quiet.cmdq]; rfl
  have htick : watchdogTick { s with ctl.phase := .ph2 } = { countTick s with ctl.phase := .ph2 } :=
    watchdogTick_of_count_le (s := { s with ctl.phase := .ph2 }) h.term hcount
  exact step_of_commands_tick h.running (.inl h.quiet.shutdownReq) hqueue htick

theorem OffPending.reachesDrain (h : OffPending s) (hpos : 0 < s.ctl.drainCnt.toNat) :
    ReachesDrain s (afterExchange s) := by
  refine ⟨h.step_eq hpos, ?_⟩
  rw [afterExchange, phase4_phase3_ctl]
  simp [countTick, h.quiet.cmdq]

/-- R803, R806: PH3 is an exchange, which keeps the link, the count and the host's level. -/
theorem afterExchange_frame (h : s.flags.remoteOperation = true) :
    (afterExchange s).flags.remoteOperation = true ∧ (afterExchange s).hb.cnt = nextCount s ∧
      (afterExchange s).inp.shutdownReq = s.inp.shutdownReq := by
  have hbranch : branch3 { countTick s with ctl.phase := .ph3 } =
      damperAdjust (exchange { countTick s with ctl.phase := .ph3 }) := branch3_of_remote h
  obtain ⟨-, hhb, hreq⟩ := exchangeAdjust_frame { countTick s with ctl.phase := .ph3 }
  have hremote := exchangeAdjust_remoteOperation { countTick s with ctl.phase := .ph3 }
  rw [afterExchange, phase4, phase3, hbranch]
  exact ⟨hremote.trans h, congrArg HeartbeatState.cnt hhb, hreq⟩

theorem OffPending.goes_on (h : OffPending s) (hmore : 1 < s.ctl.drainCnt.toNat) :
    ∃ t, step s = .next t ∧ OffPending t ∧ t.ctl.drainCnt.toNat = s.ctl.drainCnt.toNat - 1 := by
  have hpos : 0 < s.ctl.drainCnt.toNat := by omega
  have hr := h.reachesDrain hpos
  obtain ⟨hinv, hrunning, hterm, hcmdq, hleft⟩ := hr.goes_on h.inv h.running hmore
  obtain ⟨hremote, hcount, hreq⟩ := afterExchange_frame h.remoteOperation
  obtain ⟨hflags, hhb, hinp⟩ := phase5_frame_of_one_lt (hr.drainCnt ▸ hmore)
  refine ⟨_, hr.step, ⟨hinv, hrunning, ⟨hcmdq, ?_⟩, hterm.trans h.term, ?_, ?_⟩, hleft⟩
  · rw [hinp, hreq, h.quiet.shutdownReq]
  · rw [hflags, hremote]
  · have hbefore := h.hbLeft
    rw [hhb, hcount, h.toNat_nextCount hpos, hleft, (step_evolves hr.step).cfg]
    omega

theorem OffPending.ends (h : OffPending s) (hone : s.ctl.drainCnt.toNat = 1) :
    ∃ t, step s = .next t ∧ TornDown t := by
  have hr := h.reachesDrain (by omega)
  have hterm : (countDrain (afterExchange s)).ctl.term = .none := hr.term.trans h.term
  refine ⟨_, hr.step, ?_⟩
  rw [phase5_of_one (hr.drainCnt ▸ hone), endDrain_of_none hterm, countDrain, hr.ctl]
  exact ⟨rfl, h.remoteOperation, h.term, h.running.halted⟩

end

/-- Settles O48: the countdown of an ordinary drain. -/
theorem offDrainTearsDown : Obligations.OffDrainTearsDown := by
  intro s hinv hrun hquiet hterm hpos hleft
  obtain ⟨hbefore, t, hend, hdown⟩ := run_countdown (P := OffPending) (Q := TornDown)
    (fun _ h => h.goes_on) (fun _ h => h.ends) rfl hpos
    ⟨hinv, hrun, hquiet, hterm, hinv.drainRemote hterm hpos, hleft⟩
  refine ⟨fun j hj => ?_, t, hend, hdown.remoteOperation, hdown.remotePrev, hdown.term, hdown.halted⟩
  obtain ⟨u, hu, hpending⟩ := hbefore j hj
  exact ⟨u, hu, hpending.remoteOperation⟩

end Sys2Proof.Machine
end

section
/-! PROOFS. The conditions (60_exceptions.md R900, R901), the shutdown request and the last-moment acknowledgment (R902,
R903), and the reset (R911). -/

namespace Sys2Proof.Machine

/-! ### The conditions (R900, R901) -/

/-- Settles O49: `raise` is one emit, and each row of R901's table is the event of its condition. -/
theorem conditionEvents : Obligations.ConditionEvents :=
  ⟨fun _ _ => rfl, fun _ _ _ _ _ _ => ⟨rfl, rfl, rfl, rfl, rfl, rfl, rfl, rfl, rfl, rfl, rfl, rfl, rfl⟩⟩

/-! ### The reset (R911) -/

/-- Settles O54: a reset reads only the configuration and the inputs. -/
theorem nothingSurvivesReset : Obligations.NothingSurvivesReset := by
  intro s t hcfg hinp
  rw [hostReset, hostReset, hcfg, hinp]

section
variable {s : State}

/-! ### A shutdown request at PH0 (R902, R903 point 1) -/

theorem shutdown_term (s : State) : (shutdown s).ctl.term = .shutdown := rfl

/-- The shutdown (R902), whole. -/
theorem shutdown_eq (s : State) :
    shutdown s =
      let f := { s.flags with heat := false, cool := false, fanOn := false, fanHi := false, fanMed := false,
                              fanLo := false }
      { s with
        out.mode := s.cfg.modeOff, flags := f, ctl.term := .shutdown
        ctl.drainCnt := s.ctl.drainCnt.write s.cfg.offDrainCycles
        trace := s.trace ++ [.status (statusRec { s with flags := f })] } := by
  rw [shutdown, enterTerminal_eq, offTransition_eq]

/-- R801, R902: a request sampled with no terminal sequence pending. -/
theorem phase0_of_shutdown (hreq : s.inp.shutdownReq = true) (hterm : s.ctl.term = .none) :
    phase0 s = { shutdown s with ctl.phase := .ph1 } := by
  rw [phase0, if_pos ⟨hreq, hterm⟩]

/-- R616, R802: PH1 with a terminal sequence pending discards the queue. -/
theorem phase1_of_terminal (hterm : s.ctl.term ≠ .none) :
    phase1 s = .next { discarded s with ctl.phase := .ph2 } := by
  have hdrain : drainCommands s = .next (discarded s) := terminalDiscardsQueue s hterm
  rw [phase1, hdrain, andThen_next]

/-- R903 point 1: `TERM` is set before PH1, so the cycle that samples the request discards its commands. -/
theorem step_of_shutdown (hrun : Running s) (hreq : s.inp.shutdownReq = true) (hterm : s.ctl.term = .none) :
    step s = .next (afterCommands { discarded (shutdown s) with ctl.phase := .ph2 }) := by
  have hpending : (shutdown s).ctl.term ≠ .none := by rw [shutdown_term]; decide
  have hdiscard : phase1 { shutdown s with ctl.phase := .ph1 } =
      .next { discarded (shutdown s) with ctl.phase := .ph2 } := phase1_of_terminal hpending
  rw [step_of_running hrun, phase0_of_shutdown hreq hterm, hdiscard, andThen_next]

/-! ### An acknowledgment in the cycle of the fatal tick (R903 point 2) -/

/-- The only queued word was an acknowledgment, and PH1 has applied it (R613, R802). -/
def acknowledged (s : State) : State := { watchdogAck s with ctl.cmdq := [] }

theorem drainCommands_of_ack {cw : Word} (hterm : s.ctl.term = .none) (hqueue : s.ctl.cmdq = [cw])
    (hack : decode cw = .ok .heartbeatAck) : drainCommands s = .next (acknowledged s) := by
  have hhead : dispatch cw { s with ctl.cmdq := [] } = .next (acknowledged s) :=
    dispatch_of_decode_ok (s := { s with ctl.cmdq := [] }) hterm hack
  simp only [drainCommands, hqueue, drainWords, List.tail_cons, hhead, andThen_next]

/-- R700, R703: one tick after an acknowledgment the count is 1, or 0 in a register of width 0. -/
theorem toNat_nextCount_acknowledged_le (s : State) : (nextCount (acknowledged s)).toNat ≤ 1 := by
  simpa [nextCount, acknowledged, watchdogAck] using Nat.mod_le 1 (2 ^ s.hb.cnt.width)

/-- R903 point 2: with `HB_LOST` at least 1, the tick right after an acknowledgment only counts. -/
theorem step_of_ack {cw : Word} (hrun : Running s) (hreq : s.inp.shutdownReq = false) (hterm : s.ctl.term = .none)
    (hlost : 1 ≤ s.cfg.hbLost) (hqueue : s.ctl.cmdq = [cw]) (hack : decode cw = .ok .heartbeatAck) :
    step s = .next (phase5 (phase4 (phase3 { countTick (acknowledged s) with ctl.phase := .ph3 }))) := by
  have hdrain : drainCommands { s with ctl.phase := .ph1 } = .next { acknowledged s with ctl.phase := .ph1 } :=
    drainCommands_of_ack (s := { s with ctl.phase := .ph1 }) hterm hqueue hack
  have htick : watchdogTick { acknowledged s with ctl.phase := .ph2 } =
      { countTick (acknowledged s) with ctl.phase := .ph2 } :=
    watchdogTick_of_count_le (s := { acknowledged s with ctl.phase := .ph2 }) hterm
      ((toNat_nextCount_acknowledged_le s).trans hlost)
  exact step_of_commands_tick hrun (.inl hreq) hdrain htick

/-- The supervisor's link is not lost, and the count is one tick past an acknowledgment at most. -/
structure LinkKept (s : State) : Prop where
  term : s.ctl.term = .none
  halted : s.ctl.halted = false
  missed : s.hb.missed = false
  cnt : s.hb.cnt.toNat ≤ 1

/-- R800, R807: PH3 leaves the heartbeat registers as they are, but for a deactivation, which zeroes the count. -/
theorem branch3_hb (s : State) :
    (branch3 s).hb = s.hb ∨ (branch3 s).hb = { s.hb with cnt := s.hb.cnt.write 0 } := by
  unfold branch3
  split
  · obtain ⟨-, hhb, -⟩ := exchangeAdjust_frame s
    exact .inl hhb
  · split
    · rw [deactivateResult]; exact .inr rfl
    · exact .inl rfl

theorem phase3_linkKept (h : LinkKept s) : LinkKept (phase3 s) := by
  obtain ⟨hctl, -⟩ := branch3_frame s
  have hterm : (branch3 s).ctl.term = .none := hctl ▸ h.term
  have hhalted : (branch3 s).ctl.halted = false := hctl ▸ h.halted
  obtain hkeeps | hzero := branch3_hb s
  · exact ⟨hterm, hhalted, hkeeps ▸ h.missed, hkeeps ▸ h.cnt⟩
  · have hmissed : (branch3 s).hb.missed = false := hzero ▸ h.missed
    have hcnt : (branch3 s).hb.cnt.toNat = 0 := by simp [hzero]
    exact ⟨hterm, hhalted, hmissed, hcnt.trans_le (Nat.zero_le 1)⟩

theorem phase4_linkKept (h : LinkKept s) : LinkKept (phase4 s) := ⟨h.term, h.halted, h.missed, h.cnt⟩

/-- R808: with no terminal sequence pending PH5 only counts the drain down, and at its end ends remote operation. -/
theorem drainStep_of_no_terminal (hterm : s.ctl.term = .none) :
    ∃ left remote, drainStep s = { s with ctl.drainCnt := left, flags.remoteOperation := remote } := by
  obtain hzero | hone | hmore : s.ctl.drainCnt.toNat = 0 ∨ s.ctl.drainCnt.toNat = 1 ∨ 1 < s.ctl.drainCnt.toNat := by omega
  · exact ⟨s.ctl.drainCnt, s.flags.remoteOperation, drainStep_of_zero hzero⟩
  · exact ⟨_, false, (drainStep_of_one hone).trans (endDrain_of_none (s := countDrain s) hterm)⟩
  · exact ⟨_, s.flags.remoteOperation, drainStep_of_one_lt hmore⟩

theorem phase5_linkKept (h : LinkKept s) : LinkKept (phase5 s) := by
  obtain ⟨left, remote, hdrain⟩ := drainStep_of_no_terminal h.term
  rw [phase5, hdrain]
  exact ⟨h.term, h.halted, h.missed, h.cnt⟩

end

/-- Settles O50: the two branches of PH0, and the cycle after the first. -/
theorem shutdownSampledAtPhase0 : Obligations.ShutdownSampledAtPhase0 := by
  intro s f
  refine ⟨fun hreq hterm => ?_, phase0_of_no_shutdown, fun hrun hreq hterm => ?_⟩
  · rw [phase0_of_shutdown hreq hterm, shutdown_eq]
  · rw [step_of_shutdown hrun hreq hterm, discarded, shutdown_eq]

/-- Settles O51: PH1 zeroes the count, so the tick counts without losing the link, and the later phases keep it. -/
theorem lastMomentAckKeepsLink : Obligations.LastMomentAckKeepsLink := by
  intro s cw hrun hreq hterm _ hlost hqueue hack
  have hticked : LinkKept { countTick (acknowledged s) with ctl.phase := .ph3 } :=
    ⟨hterm, hrun.halted, rfl, toNat_nextCount_acknowledged_le s⟩
  obtain ⟨hterm', hhalted, hmissed, hcnt⟩ := phase5_linkKept (phase4_linkKept (phase3_linkKept hticked))
  exact ⟨_, step_of_ack hrun hreq hterm hlost hqueue hack, hterm', hhalted, hmissed, hcnt⟩

end Sys2Proof.Machine
end

section
/-! PROOFS. The reset sequence (70_reset_and_hazards.md R1000; 10_state.md R112) and the commands that start remote
operation (70_reset_and_hazards.md R1004). -/

namespace Sys2Proof.Machine

/-! ### The commands and remote operation (R1004) -/

/-- The three commands that start remote operation (R601 to R603, R1004). -/
def StartsRemote (i : Instr) : Prop := i = .ventilate ∨ i = .thermoHeat ∨ i = .thermoCool

section
variable {i : Instr} {s t : State}

theorem remoteOperation_of_startsRemote (hi : StartsRemote i) (h : exec i s = .next t) :
    t.flags.remoteOperation = true := by
  obtain ⟨hventilate, hheat, hcool⟩ := remoteModesResult s
  obtain rfl | rfl | rfl := hi
  · cases hventilate.symm.trans h; rfl
  · cases hheat.symm.trans h; rfl
  · cases hcool.symm.trans h; rfl

theorem remoteOperation_of_not_startsRemote (hi : ¬ StartsRemote i) (h : exec i s = .next t) :
    t.flags.remoteOperation = s.flags.remoteOperation := by
  cases i with
  | ventilate => exact absurd (.inl rfl) hi
  | thermoHeat => exact absurd (.inr (.inl rfl)) hi
  | thermoCool => exact absurd (.inr (.inr rfl)) hi
  | off => cases (offResult s).symm.trans h; rfl
  | damperPercent n =>
    obtain hle | hgt := le_or_gt n 100
    · cases (exec_damperPercent_of_le s hle).symm.trans h; rfl
    · cases (exec_damperPercent_of_gt s hgt).symm.trans h; rfl
  | thermoAuto | heatMode | coolMode | fanMode | fanHi | fanMed | fanLo | updateStatus | heartbeatAck => cases h; rfl

end

/-- Settles O31: the three commands leave remote operation on, and every other command leaves it as it was. -/
theorem onlyThreeCommandsStartRemote : Obligations.OnlyThreeCommandsStartRemote := by
  intro i s t hexec hchange
  have hstarts : StartsRemote i :=
    by_contra fun hnot => hchange (remoteOperation_of_not_startsRemote hnot hexec)
  exact ⟨hstarts, remoteOperation_of_startsRemote hstarts hexec⟩

/-! ### The reset sequence (R1000) -/

/-- A sensor reading fits the width a reset gives its register (R104, R500). -/
theorem toNat_ofNat_combine (c : Cfg) (x y : Nat) : (Reg.ofNat c.rawW (c.combine x y)).toNat = c.combine x y := by
  rw [Reg.toNat_ofNat, Nat.mod_eq_of_lt (combine_lt c x y)]

/-- Settles O53: the step after a reset is the calibration of the reset registers, whatever the two readings. -/
theorem resetSequenceResult : Obligations.ResetSequenceResult := by
  intro s hwf c r n r1 d night day
  refine ⟨finishReset r, step_of_resetPending hwf rfl, ?_⟩
  have hcalibrate := calibrateResult r
  rw [finishReset, hcalibrate]
  exact ⟨rfl, rfl, rfl, rfl, rfl, percent_toNat_ofNat (reqInit_le hwf), toNat_ofNat_combine c d.1 d.2,
    toNat_ofNat_combine c n.1 n.2, rfl, rfl, rfl, rfl, rfl, rfl⟩

end Sys2Proof.Machine
end

section
/-! PROOFS. A silent supervisor (70_reset_and_hazards.md R1007; 43_watchdog.md R700 to R702; 44_control_loop.md R809): the
idle cycles up to `HB_LOST`, the cycle that loses the link, and the drain to the halt. -/

namespace Sys2Proof.Machine

section
variable {s t : State} {k : Nat}

/-! ### An idle cycle (R700, R701, R800) -/

/-- Between cycles, idle, with a silent supervisor and host, and the count in the register of R105. -/
structure SilentIdle (s : State) : Prop where
  running : Running s
  quiet : Quiet s
  idle : Idle s
  hbCnt : s.hb.cnt.width = s.cfg.hbCntWidth

/-- The idle wait of PH3 is all that PH3 and PH4 do while remote operation is and was inactive. -/
theorem phase4_phase3_of_idle (hremote : s.flags.remoteOperation = false) (hprev : s.ctl.remotePrev = false) :
    phase4 (phase3 { s with ctl.phase := .ph3 }) = { emit (.wait .idle) s with ctl.phase := .ph5 } := by
  have hbranch : branch3 { s with ctl.phase := .ph3 } = emit (.wait .idle) { s with ctl.phase := .ph3 } :=
    branch3_of_idle hremote hprev
  rw [phase4, phase3, hbranch]
  simp only [emit, hremote, ← hprev]

/-- PH1 finds no command and PH0 no request, so the cycle begins with the tick. -/
theorem SilentIdle.step_of_tick (h : SilentIdle s)
    (htick : watchdogTick { s with ctl.phase := .ph2 } = { t with ctl.phase := .ph2 }) :
    step s = .next (phase5 (phase4 (phase3 { t with ctl.phase := .ph3 }))) := by
  have hqueue : drainCommands { s with ctl.phase := .ph1 } = .next { s with ctl.phase := .ph1 } := by
    rw [drainCommands, h.quiet.cmdq]; rfl
  exact step_of_commands_tick h.running (.inl h.quiet.shutdownReq) hqueue htick

/-- Up to `HB_LOST` an idle cycle counts, with or without the heartbeat, and waits. -/
theorem SilentIdle.step_of_count_le (h : SilentIdle s) (hle : (nextCount s).toNat ≤ s.cfg.hbLost) :
    step s = .next (emit (.wait .idle) (countTick s)) := by
  have htick : watchdogTick { s with ctl.phase := .ph2 } = { countTick s with ctl.phase := .ph2 } :=
    watchdogTick_of_count_le (s := { s with ctl.phase := .ph2 }) h.idle.term hle
  have hdrain : drainStep { emit (.wait .idle) (countTick s) with ctl.phase := .ph5 } =
      { emit (.wait .idle) (countTick s) with ctl.phase := .ph5 } := drainStep_of_zero h.idle.drainCnt
  rw [h.step_of_tick htick, phase4_phase3_of_idle (s := countTick s) h.idle.remoteOperation h.idle.remotePrev, phase5,
    hdrain, ← h.running.phase]
  rfl

/-! ### The idle cycles from a zero count (R700, R701) -/

/-- The state after `k` idle cycles from a zero count. -/
def afterIdle (s : State) (k : Nat) : State :=
  { s with hb.cnt := s.hb.cnt.write k, trace := s.trace ++ idleEvents s.cfg k }

theorem afterIdle_silentIdle (k : Nat) (h : SilentIdle s) : SilentIdle (afterIdle s k) :=
  ⟨⟨h.running.cfgWf, h.running.phase, h.running.resetPending, h.running.halted⟩, ⟨h.quiet.cmdq, h.quiet.shutdownReq⟩,
    ⟨h.idle.remoteOperation, h.idle.remotePrev, h.idle.term, h.idle.drainCnt⟩, h.hbCnt⟩

theorem SilentIdle.nextCount_afterIdle (h : SilentIdle s) (hk : k ≤ s.cfg.hbLost) :
    nextCount (afterIdle s k) = s.hb.cnt.write (k + 1) := nextCount_counted h.hbCnt hk

theorem SilentIdle.toNat_nextCount_afterIdle (h : SilentIdle s) (hk : k ≤ s.cfg.hbLost) :
    (nextCount (afterIdle s k)).toNat = k + 1 := toNat_nextCount_counted h.hbCnt hk

theorem idleEvents_succ (c : Cfg) (k : Nat) :
    idleEvents c (k + 1) = idleEvents c k ++ (if k + 1 = c.hbEmit then [.heartbeat] else []) ++ [.wait .idle] := by
  rw [idleEvents]
  split <;> simp

theorem SilentIdle.step_afterIdle (h : SilentIdle s) (hk : k < s.cfg.hbLost) :
    step (afterIdle s k) = .next (afterIdle s (k + 1)) := by
  have hcount : (nextCount (afterIdle s k)).toNat = k + 1 := h.toNat_nextCount_afterIdle hk.le
  rw [(afterIdle_silentIdle k h).step_of_count_le (hcount.trans_le hk), countTick, hcount,
    h.nextCount_afterIdle hk.le]
  have htrace : s.trace ++ idleEvents s.cfg k ++ (if k + 1 = s.cfg.hbEmit then [.heartbeat] else []) ++ [.wait .idle] =
      s.trace ++ idleEvents s.cfg (k + 1) := by
    simp only [idleEvents_succ, List.append_assoc]
  exact congrArg (fun evs => Host.Outcome.next { afterIdle s (k + 1) with trace := evs }) htrace

theorem SilentIdle.run_afterIdle (h : SilentIdle s) (hzero : s.hb.cnt.write 0 = s.hb.cnt) (hk : k ≤ s.cfg.hbLost) :
    run k s = .next (afterIdle s k) := by
  induction k with
  | zero => simp only [run, afterIdle, hzero, idleEvents, List.append_nil]
  | succ k ih => rw [run_add, ih (Nat.le_of_succ_le hk), andThen_next, run_succ_of_step (h.step_afterIdle hk), run]

/-! ### The cycle that loses the link (R702) -/

/-- The link is lost: what R702 sets and no later part of a cycle clears. -/
structure LinkIsLost (s : State) : Prop where
  term : s.ctl.term = .fatal
  missed : s.hb.missed = true
  malfunction : s.flags.malfunction = true

theorem linkLost_linkIsLost (s : State) : LinkIsLost (linkLost s) := by
  rw [linkLost_eq]
  exact ⟨rfl, rfl, rfl⟩

/-- R809: even where the drain ends at once, the deactivation gives `malfunction` the value of `MISSED`. -/
theorem phase5_linkIsLost (h : LinkIsLost s) : LinkIsLost (phase5 s) := by
  obtain ⟨hterm, hmissed, hmalfunction⟩ := h
  obtain hzero | hone | hmore : s.ctl.drainCnt.toNat = 0 ∨ s.ctl.drainCnt.toNat = 1 ∨ 1 < s.ctl.drainCnt.toNat := by omega
  · rw [phase5, drainStep_of_zero hzero]
    exact ⟨hterm, hmissed, hmalfunction⟩
  · rw [phase5, drainStep_of_one hone, endDrain_of_fatal (s := countDrain s) hterm]
    exact ⟨hterm, hmissed, hmissed⟩
  · rw [phase5_of_one_lt hmore]
    exact ⟨hterm, hmissed, hmalfunction⟩

/-- The state a tick past `HB_LOST` leaves. -/
def lost (s : State) : State := linkLost (countTick s)

theorem lost_ctl (s : State) :
    (lost s).ctl = { s.ctl with term := .fatal, drainCnt := s.ctl.drainCnt.write s.cfg.offDrainCycles } := by
  rw [lost, linkLost_eq]; rfl

theorem lost_remoteOperation (s : State) : (lost s).flags.remoteOperation = s.flags.remoteOperation := by
  rw [lost, linkLost_eq]; rfl

/-- Past `HB_LOST` the cycle loses the link and goes on to PH3. -/
theorem SilentIdle.step_of_count_gt (h : SilentIdle s) (hgt : s.cfg.hbLost < (nextCount s).toNat) :
    step s = .next (phase5 (phase4 (phase3 { lost s with ctl.phase := .ph3 }))) := by
  refine h.step_of_tick ((watchdogTick_of_count_gt (s := { s with ctl.phase := .ph2 }) h.idle.term hgt).trans ?_)
  rw [lost, linkLost_eq, linkLost_eq]
  rfl

theorem SilentIdle.loses_link (h : SilentIdle s) (hgt : s.cfg.hbLost < (nextCount s).toNat) :
    ∃ t, step s = .next t ∧ LinkIsLost t := by
  have hprev : (lost s).ctl.remotePrev = false := by rw [lost_ctl]; exact h.idle.remotePrev
  obtain ⟨hterm, hmissed, hmalfunction⟩ := linkLost_linkIsLost (countTick s)
  refine ⟨_, h.step_of_count_gt hgt, phase5_linkIsLost ?_⟩
  rw [phase4_phase3_of_idle ((lost_remoteOperation s).trans h.idle.remoteOperation) hprev]
  exact ⟨hterm, hmissed, hmalfunction⟩

/-! ### The drain of a lost link (R808, R809) -/

/-- Between cycles, with the fatal sequence pending; O55 gives no invariant, so this asks less than `TerminalPending`. -/
structure FatalPending (s : State) : Prop where
  running : Running s
  term : s.ctl.term = .fatal

/-- R809: the lines are released, the restart is asked for and ACC is halted. -/
structure RestartRequested (t : State) : Prop where
  halted : t.ctl.halted = true
  fatalRestart : t.trace.getLast? = some .fatalRestart
  lines : t.lines = releasedLines

theorem FatalPending.reachesDrain (h : FatalPending s) :
    ReachesDrain s (phase4 (phase3 { discarded s with ctl.phase := .ph3 })) :=
  terminal_reachesDrain h.running (ne_of_eq_of_ne h.term (by decide))

theorem FatalPending.goes_on (h : FatalPending s) (hmore : 1 < s.ctl.drainCnt.toNat) :
    ∃ t, step s = .next t ∧ FatalPending t ∧ t.ctl.drainCnt.toNat = s.ctl.drainCnt.toNat - 1 := by
  have hr := h.reachesDrain
  generalize phase4 (phase3 { discarded s with ctl.phase := .ph3 }) = r at hr
  have hcfg := (step_evolves hr.step).cfg
  refine ⟨_, hr.step, ?_⟩
  rw [phase5_of_one_lt (hr.drainCnt ▸ hmore)] at hcfg ⊢
  simp only [countDrain, hr.ctl]
  exact ⟨⟨⟨hcfg ▸ h.running.cfgWf, rfl, h.running.resetPending, h.running.halted⟩, h.term⟩, Reg.toNat_write_pred _⟩

theorem FatalPending.ends (h : FatalPending s) (hone : s.ctl.drainCnt.toNat = 1) :
    ∃ t, step s = .next t ∧ RestartRequested t := by
  have hr := h.reachesDrain
  generalize phase4 (phase3 { discarded s with ctl.phase := .ph3 }) = r at hr
  refine ⟨_, hr.step, ?_⟩
  rw [phase5_of_one (hr.drainCnt ▸ hone), endDrain_of_fatal (s := countDrain r) (hr.term.trans h.term)]
  exact ⟨rfl, by simp, rfl⟩

/-- From the state a fatal tick leaves, ACC has halted after exactly `OFF_DRAIN_CYCLES` cycles. -/
theorem FatalPending.run_halts {n : Nat} (h : FatalPending s) (hcount : s.ctl.drainCnt.toNat = n) (hpos : 0 < n) :
    ∃ t, run n s = .next t ∧ RestartRequested t :=
  (run_countdown (fun _ hp => hp.goes_on) (fun _ hp => hp.ends) hcount hpos h).2

theorem SilentIdle.lost_fatalPending (h : SilentIdle s) : FatalPending (lost s) := by
  have hcfg : (lost s).cfg = s.cfg := (linkLost_evolves (countTick s)).cfg
  refine ⟨⟨hcfg ▸ h.running.cfgWf, ?_, ?_, ?_⟩, ?_⟩ <;> rw [lost_ctl]
  · exact h.running.phase
  · exact h.running.resetPending
  · exact h.running.halted

theorem discarded_of_empty (h : s.ctl.cmdq = []) : discarded s = s := by
  rw [discarded, h, List.map_nil, List.append_nil, ← h]

/-- The cycle that loses the link already drains: it ends as a whole cycle from the state its tick leaves would. -/
theorem SilentIdle.step_eq_step_lost (h : SilentIdle s) (hgt : s.cfg.hbLost < (nextCount s).toNat) :
    step s = step (lost s) := by
  have hcmdq : (lost s).ctl.cmdq = [] := by rw [lost_ctl]; exact h.quiet.cmdq
  rw [h.step_of_count_gt hgt, h.lost_fatalPending.reachesDrain.step, discarded_of_empty hcmdq]

/-- R1007, R809: with the drain that begins in the cycle of the loss, ACC halts. -/
theorem SilentIdle.run_drain_halts (h : SilentIdle s) (hwidth : s.ctl.drainCnt.width = s.cfg.drainCntWidth)
    (hgt : s.cfg.hbLost < (nextCount s).toNat) :
    ∃ t, run s.cfg.offDrainCycles s = .next t ∧ RestartRequested t := by
  have hpos : 0 < s.cfg.offDrainCycles := offDrainCycles_pos h.running.cfgWf
  have hcount : (lost s).ctl.drainCnt.toNat = s.cfg.offDrainCycles := by
    rw [lost_ctl]
    exact Reg.toNat_write_of_lt (hwidth ▸ s.cfg.lt_drainCntWidth le_rfl)
  have hsame : run s.cfg.offDrainCycles s = run s.cfg.offDrainCycles (lost s) := by
    obtain ⟨n, hn⟩ := Nat.exists_eq_succ_of_ne_zero hpos.ne'
    rw [hn, run, run, h.step_eq_step_lost hgt]
  rw [hsame]
  exact h.lost_fatalPending.run_halts hcount hpos

end

/-- Settles O55: idle cycles up to `HB_LOST`, then the cycle that loses the link, and the drain that begins in it. -/
theorem silentSupervisorLosesLink : Obligations.SilentSupervisorLosesLink := by
  intro s hrun hquiet hidle hsized hcnt
  have h : SilentIdle s := ⟨hrun, hquiet, hidle, hsized.hbCnt⟩
  have hzero : s.hb.cnt.write 0 = s.hb.cnt := by rw [hcnt, Reg.write_ofNat]
  have hlast : SilentIdle (afterIdle s s.cfg.hbLost) := afterIdle_silentIdle s.cfg.hbLost h
  have hgt : s.cfg.hbLost < (nextCount (afterIdle s s.cfg.hbLost)).toNat :=
    (Nat.lt_succ_self _).trans_eq (h.toNat_nextCount_afterIdle le_rfl).symm
  refine ⟨fun k hk => h.run_afterIdle hzero hk, ?_, ?_⟩
  · obtain ⟨t, hstep, hlost⟩ := hlast.loses_link hgt
    refine ⟨t, ?_, hlost.term, hlost.malfunction, hlost.missed⟩
    rw [run_add, h.run_afterIdle hzero le_rfl, andThen_next, run_succ_of_step hstep, run]
  · obtain ⟨t, hend, hrestart⟩ := hlast.run_drain_halts hsized.drainCnt hgt
    refine ⟨t, ?_, hrestart.halted, hrestart.fatalRestart, hrestart.lines⟩
    rw [run_add, h.run_afterIdle hzero le_rfl, andThen_next]
    exact hend

end Sys2Proof.Machine
end
